-- ==== Sys2Proof/Word.lean ====
section
/-! DEFINITION. The vocabulary of the vrcpu decoder: the byte, the register codes, the ALU modes, the jump
conditions, the condition flags, the signals of a control word and the instruction forms. Plain types only;
how they are read from bits stands in Sys2Proof/Decode.lean. -/

namespace Sys2Proof

/-- An 8-bit value: an opcode, an immediate, a register, a memory cell (rules R6, R261). -/
abbrev Byte := BitVec 8

/-- The eight 3-bit register codes (rule R23). `stpi` and `imm` are the pseudo codes 6 and 7. -/
inductive Reg where
  | pc | ra | rb | rc | rd | stp | stpi | imm
  deriving DecidableEq, Repr, Inhabited

/-- The four opcode groups, the top two bits of an opcode (rule R70). -/
inductive Group where
  | mov | lod | sto | alu
  deriving DecidableEq, Repr, Inhabited

/-- The two spaces of encoded bytes: opcodes in program memory (rule R70) and bytes on the LCD's command port
(rule R97). One byte means one thing in each. -/
inductive Space where
  | opcode | lcdCommand
  deriving DecidableEq, Repr, Inhabited

/-- The closed set of ALU modes (rule R72), in the order of their codes. -/
inductive AluMode where
  | incA | aPlusB | aMinusB | bMinusA | aAndB | aOrB | aXorB | notA
  deriving DecidableEq, Repr, Inhabited

/-- The conditions a flag selector names (rule R74). -/
inductive Cond where
  | carry | zero | oflow | neg | notCarry | notZero | notOflow | notNeg
  deriving DecidableEq, Repr, Inhabited

/-- The four condition flags, inputs of the decoder (rules R21, R27). -/
structure Flags where
  /-- Carry. -/
  c : Bool
  /-- Zero. -/
  z : Bool
  /-- Overflow. -/
  o : Bool
  /-- Negative. -/
  n : Bool
  deriving DecidableEq, Repr, Inhabited

/-- The signals of the control word, a closed set (rules R80, R81). `BW_PC` is `w .pc` and `Acc.write` is `bwAlu`
(rule R84). A leading underscore of the source's name is dropped: `maw` is `_MAW`. -/
inductive Signal where
  /-- Register `r` drives the bus. -/
  | w (r : Reg)
  /-- Memory drives the bus. -/
  | bwMem
  /-- The ALU latch drives the bus. -/
  | bwAlu
  /-- Register `r` latches the bus. -/
  | r (r : Reg)
  /-- The memory-address register latches the bus. -/
  | maw
  /-- The instruction register latches the bus. -/
  | irw
  /-- The stack pointer latches the bus. -/
  | stpw
  /-- The ALU mode select. -/
  | alu (m : AluMode)
  /-- Two-operand ALU form. -/
  | alb
  /-- ALU carry-in. -/
  | alc
  /-- Latch the ALU output. -/
  | alw
  /-- Write the bus to memory. -/
  | mw
  /-- LCD strobe. -/
  | lcd
  /-- LCD command mode. -/
  | lcdCommand
  /-- LCD data mode. -/
  | lcdData
  /-- Select program memory for this access. -/
  | pgm
  /-- Increment PC. -/
  | pcc
  /-- Halt. -/
  | hlt
  /-- End of instruction. -/
  | tr
  deriving DecidableEq, Repr, Inhabited

/-- A microstep's output: a set of signals (rules R9, R30), written as a list in the source's order. Every use asks
for membership only, so neither order nor repetition matters. -/
abbrev SigSet := List Signal

/-- The instruction forms that the dispatch rules R139, R162, R189 and R208 select (rule R90). -/
inductive Form where
  /-- `jc` .. `jnn` (rule R130). -/
  | condJump (c : Cond)
  /-- `clra` (rule R131). -/
  | clra
  /-- `movi d, Imm` (rule R132). -/
  | movi (d : Reg)
  /-- `jmpi Imm` (rule R133). -/
  | jmpi
  /-- `jmz` (rule R134). -/
  | jmz
  /-- `tst s` (rule R135). -/
  | tst (s : Reg)
  /-- `mov d, s`, named `jmp s` when `d` is PC (rule R136). -/
  | mov (d s : Reg)
  /-- `hlt` (rule R137). -/
  | hlt
  /-- An undefined MOV opcode (rule R138). -/
  | undef
  /-- `nop` (rule R140). -/
  | nop
  /-- `peek s` (rule R150). -/
  | peek (d : Reg)
  /-- `lcc mem` (rule R151). -/
  | lccMem
  /-- `lcc pgm`, OPEN (rule R153). -/
  | lccPgm
  /-- `lcd pgm` (rule R154). -/
  | lcdPgm
  /-- `ret` (rules R155, R186). -/
  | ret
  /-- `pop d` (rules R156, R187). -/
  | pop (d : Reg)
  /-- `lcc imm`, OPEN (rule R157). -/
  | lccImm
  /-- `lod d, *Imm` (rule R158). -/
  | lodImm (d : Reg)
  /-- `lcd imm` (rule R159). -/
  | lcdImm
  /-- `clr s` (rule R160). -/
  | clr (d : Reg)
  /-- `lod d, *s` and `lod d, PGM*Rc` (rule R161). -/
  | lod (d s : Reg)
  /-- `pushi Imm` (rule R180). -/
  | pushi
  /-- `call Rc` (rule R181). -/
  | call
  /-- `push s` (rule R182). -/
  | push (s : Reg)
  /-- `calli Imm`, OPEN (rule R183). -/
  | calli
  /-- `stoi Imm, Imm`, OPEN (rule R184). -/
  | stoiImm
  /-- `stoi s` (rule R185). -/
  | stoi (s : Reg)
  /-- `sto *d = s` and `sto PGM*Rc = s` (rule R188). -/
  | sto (d s : Reg)
  /-- `inc r` (rule R200). -/
  | inc (r : Reg)
  /-- `add r` (rule R201). -/
  | add (r : Reg)
  /-- `sub r` (rule R202). -/
  | sub (r : Reg)
  /-- `rsb r` (rule R203). -/
  | rsb (r : Reg)
  /-- `cmp r, Rb` (rule R204). -/
  | cmpRegRb (r : Reg)
  /-- `cmp Rb, r` (rule R205). -/
  | cmpRbReg (r : Reg)
  /-- `lcc r` (rule R206). -/
  | lccReg (r : Reg)
  /-- `lcd r` (rule R207). -/
  | lcdReg (r : Reg)
  deriving DecidableEq, Repr, Inhabited

end Sys2Proof
end

