-- ==== Sys2Proof/Config.lean ====
section
/-! DEFINITION. What an implementation fixes and the spec leaves open: the microsteps of the four OPEN
instructions, the layout of the control word and the font. A constant declared `opaque` here has no body, so that no
proof can see what it is. -/

namespace Sys2Proof

/-- Values of the four OPEN sequence parameters (rule R7; decisions D17 to D20). What every value must meet stands in
`OpenSeqs.wf` (Sys2Proof/WellFormed.lean). -/
structure OpenSeqs where
  /-- `SEQ_LCC_IMM` (rule R157). -/
  lccImm : List SigSet
  /-- `SEQ_LCC_PGM` (rule R153). -/
  lccPgm : List SigSet
  /-- `SEQ_CALLI` (rule R183). -/
  calli : List SigSet
  /-- `SEQ_STOI` (rule R184). -/
  stoi : List SigSet
  deriving DecidableEq, Repr, Inhabited

/-- What a host supplies of the four OPEN sequence parameters: a value, or none (rules R7, R269 (f)). -/
structure OpenSupply where
  /-- `SEQ_LCC_IMM` (rule R157). -/
  lccImm : Option (List SigSet)
  /-- `SEQ_LCC_PGM` (rule R153). -/
  lccPgm : Option (List SigSet)
  /-- `SEQ_CALLI` (rule R183). -/
  calli : Option (List SigSet)
  /-- `SEQ_STOI` (rule R184). -/
  stoi : Option (List SigSet)
  deriving DecidableEq, Repr, Inhabited

/-- No parameter is supplied. -/
def OpenSupply.nothing : OpenSupply := { lccImm := none, lccPgm := none, calli := none, stoi := none }

/-- All four parameters are supplied. -/
def OpenSeqs.supply (P : OpenSeqs) : OpenSupply :=
  { lccImm := some P.lccImm, lccPgm := some P.lccPgm, calli := some P.calli, stoi := some P.stoi }

/-- How `BW_MEM` or `BW_ALU` is packed: a bit of its own, or a code in the bus-source field (rule R86). -/
inductive BusMask where
  | bit (pos : Nat)
  | code (c : BitVec 3)
  deriving DecidableEq, Repr, Inhabited

/-- The layout of the control word (rules R82, R83, R85, R86; decision D2): the bit position of each one-bit signal,
the lowest bit of each 3-bit field and the packing of `BW_MEM` and `BW_ALU`. The admissible layouts are those of
`Layout.wf` (Sys2Proof/WellFormed.lean). -/
structure Layout where
  pgm : Nat
  maw : Nat
  mw : Nat
  irw : Nat
  alw : Nat
  pcc : Nat
  alc : Nat
  alb : Nat
  lcd : Nat
  lcdCommand : Nat
  lcdData : Nat
  hlt : Nat
  tr : Nat
  stpw : Nat
  /-- `W_OFFSET`. -/
  wOffset : Nat
  /-- `R_OFFSET`. -/
  rOffset : Nat
  /-- `ALU_OFFSET`. -/
  aluOffset : Nat
  /-- `MASK_BW_MEM`. -/
  bwMem : BusMask
  /-- `MASK_BW_ALU`. -/
  bwAlu : BusMask
  deriving DecidableEq, Repr, Inhabited

/-- The font's bytes: character code, glyph column (rule R241, decision D28); the space is set apart in `Config.font`. -/
opaque Config.fontRaw : Nat → Nat → Byte

/-- The glyph columns of the bytes 128 to 255, `FONT_HIGH` (rule R241, decision D29). -/
opaque Config.fontHigh : Nat → Nat → Byte

/-- `FONT[c][i]` (rule R241): not in the source, except that the space's glyph is blank. -/
def Config.font (c i : Nat) : Byte :=
  if c = 32 then 0#8 else Config.fontRaw c i

/-- The LCD's size at reset, `new(16, 2)` (rule R270, decision D42): the width. -/
def Config.resetWidth : Nat := 16

/-- The LCD's size at reset, `new(16, 2)` (rule R270, decision D42): the height. -/
def Config.resetHeight : Nat := 2

end Sys2Proof
end

