-- ==== Sys2Proof/Machine/State.lean ====
section
/-! DEFINITION. The machine's state as plain data: the datapath and decoder of `46_datapath_harness.md` R261, the LCD
device of `10_state.md` R31, the OPEN parameters that are supplied, whether a run is on and the queue of host moves; the
reasons a step can stop; and the state after reset. -/

namespace Sys2Proof.Machine

/-! ### Memory -/

/-- A memory: its bytes that are not 0, by rising address. An address that is not listed reads 0 (rule R266, log 4). -/
abbrev Memory := List Host.Cell

/-! ### The LCD device -/

/-- An entry of the pixel buffer: `-1`, `0` or `1` (rule R31). -/
inductive Pixel where
  /-- `-1`: never drawn. -/
  | unset
  /-- `0`. -/
  | off
  /-- `1`. -/
  | on
  deriving DecidableEq, Repr, Inhabited

/-- The LCD device (rule R31). The stride and the buffer's sizes are computed from `width` and `height` (rule R224). -/
structure Lcd where
  /-- Visible characters of a line, at least 1. -/
  width : Nat
  /-- Lines, 1 to 4. -/
  height : Nat
  /-- Display data RAM, offsets below `(width + 1) * height` (rule R58). -/
  ddram : Memory
  /-- The offset the next data byte is stored at. -/
  cursor : Nat
  /-- The last ENTRY_MODE command byte. -/
  entryMode : Byte
  /-- The last DISPLAY command byte. -/
  displayFlags : Byte
  /-- The rasterized pixels: `pix[x][y]`, a list of columns. -/
  pix : List (List Pixel)
  deriving DecidableEq, Repr

/-- `new(width, height)`: the state of a device just constructed (rules R35, R223, decision D27). The bounds of
`width` and `height` are checked in `Lcd.new?` (Sys2Proof/Machine/Lcd.lean). -/
def Lcd.make (width height : Nat) : Lcd :=
  { width := width
    height := height
    ddram := []
    cursor := 0
    entryMode := 0x06#8
    displayFlags := 0x00#8
    pix := List.replicate (width * 6 - 1) (List.replicate (height * 9 - 1) .unset) }

/-! ### The host's moves -/

/-- What the environment may do to the machine (the table of rule R338) and to the LCD's ports (rule R220). A move that
rule R338 gives before reset, and a byte on an LCD port, is refused during a run (log 12). The reads (`read_byte`,
`read_line`, `num_pixels`, `pixel_state`) change no state and are functions of it instead. -/
inductive HostOp where
  /-- Before reset: write the ROM image, as far as it is not fixed: the OPEN sequences (rules R7, R323). -/
  | supplyOpen (seqs : OpenSupply)
  /-- Before reset: load program memory from address 0 on (rule R266). -/
  | loadProgram (bytes : List Byte)
  /-- Before reset: load data memory from address 0 on (rule R266). -/
  | loadData (bytes : List Byte)
  /-- Before reset: `new(width, height)` in place of the device that is there. -/
  | lcdNew (width height : Nat)
  /-- `send_command(b)` on the LCD's command port, outside a run. -/
  | lcdCommand (b : Byte)
  /-- `write_byte(b)` on the LCD's data port, outside a run. -/
  | lcdData (b : Byte)
  /-- `write_string(s)` on the LCD's data port, outside a run. -/
  | lcdText (bytes : List Byte)
  /-- Between microsteps: `update_pixels()`. -/
  | lcdUpdatePixels
  /-- While halted: resume (rule R268). -/
  | resume
  /-- Any time: reset (rules R320 to R322). -/
  | reset
  deriving DecidableEq, Repr

/-! ### The state -/

/-- The whole machine. -/
structure State where
  /-- Program counter, register code 0 (rule R26). -/
  pc : Byte
  /-- Register code 1 (rule R23). -/
  ra : Byte
  /-- Register code 2, the ALU's B operand (rule R23). -/
  rb : Byte
  /-- Register code 3, the program-memory pointer (rule R23). -/
  rc : Byte
  /-- Register code 4 (rule R23). -/
  rd : Byte
  /-- Stack pointer, register code 5 (rule R23). -/
  stp : Byte
  /-- Accumulator, the ALU output latch (rule R29). -/
  acc : Byte
  /-- Memory-address register (rule R29). -/
  mar : Byte
  /-- Instruction register, the decoder's opcode input (rules R21, R29). -/
  ir : Byte
  /-- Condition flags C, Z, O, N (rules R21, R27). -/
  flags : Flags
  /-- Microtime counter (rule R22). -/
  mt : BitVec 3
  /-- Set by `HLT` (rule R268). -/
  halted : Bool
  /-- Program memory, 256 bytes (rule R266). -/
  pmem : Memory
  /-- Data memory, 256 bytes (rule R266). -/
  dmem : Memory
  /-- The LCD device (rule R261). -/
  lcd : Lcd
  /-- Host moves that wait, first one first: the model's own field (log 12). -/
  ops : List HostOp
  /-- The OPEN sequence parameters that the host has supplied, a part of the ROM's contents (rules R7, R269 (f), R322). -/
  openSeqs : OpenSupply
  /-- Whether a run is on, from a reset on: the model's own field, which tells the "before reset" of rule R338 from the
  rest (log 8). -/
  running : Bool
  deriving DecidableEq, Repr

/-- Why a step stops with a fault: the harness faults of rule R269. Each is safe: the model stops where the spec says that
the run has no end state. -/
inductive Fault where
  /-- `W(6)` or `W(7)`: a pseudo register drives the bus (rules R262, R269 (a); decision D37). Raised by `commit` for the
  30 opcodes that R269 lists. Safe. -/
  | pseudoDriver
  /-- `R(6)` or `R(7)`: a pseudo register latches the bus (rules R265, R269 (a)). Raised by `commit`; in the
  sequences of the spec the same register has driven the bus before. Safe. -/
  | pseudoSink
  /-- A bus sink with no bus driver (rule R269 (b)). Raised by `commit`, by no sequence of the spec; a supplied parameter may
  hold such a step. Safe. -/
  | noDriver
  /-- `_ALW` with no ALU mode, with two, or with one outside the four of rule R263 (rule R269 (c)). Raised by `commit`, by
  no sequence of the spec; a supplied parameter may hold such a step. Safe. -/
  | aluMode
  /-- `PCC` with `R(PC)` (rules R265, R269 (d)). Raised by `commit`, by no sequence of the spec; a supplied parameter
  may hold such a step. Safe. -/
  | pccWithLoad
  /-- `LCD` with both or neither of its mode signals (rules R221, R269 (e)). Raised by `commit`, by no sequence of the
  spec; a supplied parameter may hold such a step. Safe. -/
  | lcdMode
  /-- An OPEN opcode whose parameter is not supplied, or is no list of the shape its rule asks for (rule R269 (f),
  log 5). Raised by the meanings of 0x76, 0x7E, 0xB8 and 0xBF and by `microstep`. Safe. -/
  | openUnsupplied
  /-- Two different bus drivers in one set, which rules R88 and R332 rule out (log 16). Raised by `commit`, by no
  sequence of the ROM. Safe. -/
  | busContention
  deriving DecidableEq, Repr

/-- Why a step is refused. -/
inductive Refusal where
  /-- The instruction has no meaning yet. Raised by no arm of `exec`: every instruction has its meaning. Safe. -/
  | notModelled (mnemonic : String)
  /-- `new(width, height)` outside the bounds of rule R224 (decision D31). Raised by the host move `lcdNew`. Safe. -/
  | lcdConstruction
  /-- A resume of a machine that is not halted: rule R338 gives the host this move while halted only (log 14). Raised by
  the host move `resume`. Safe. -/
  | resumeNotHalted
  /-- A host move that rule R338 gives before reset only, or a byte for the LCD from the host, during a run (log 12). Raised
  by the host moves `supplyOpen`, `loadProgram`, `loadData`, `lcdNew`, `lcdCommand`, `lcdData` and `lcdText`. Safe. -/
  | duringRun
  deriving DecidableEq, Repr

/-- What a step or a meaning answers. -/
abbrev Result := Host.Outcome State Fault Refusal

/-- The machine right after reset (rules R270, R320 to R322): every register, Acc, MAR, IR and flag 0, the counter 0, not
halted, the LCD `new(16, 2)`, both memories with nothing loaded, no OPEN parameter supplied (log 5); the run is on and no
host move waits. -/
def State.reset : State :=
  { pc := 0#8
    ra := 0#8
    rb := 0#8
    rc := 0#8
    rd := 0#8
    stp := 0#8
    acc := 0#8
    mar := 0#8
    ir := 0#8
    flags := { c := false, z := false, o := false, n := false }
    mt := 0#3
    halted := false
    pmem := []
    dmem := []
    lcd := Lcd.make Config.resetWidth Config.resetHeight
    ops := []
    openSeqs := OpenSupply.nothing
    running := true }

/-- The machine before its first reset: nothing loaded, nothing supplied, no run on (rule R338, log 8). -/
def State.setup : State := { State.reset with running := false }

end Sys2Proof.Machine
end

