-- ==== Sys2Proof/Machine/Flags.lean ====
section
/-! DEFINITION. The ALU and every flag computation of the spec (rules R263, R264), and the conditions of the jumps
(rule R74). -/

namespace Sys2Proof.Machine

/-- What the ALU delivers: the result, the carry out and the overflow (rules R263, R264). -/
structure AluOut where
  res : Byte
  carry : Bool
  overflow : Bool
  deriving DecidableEq, Repr

/-- `x + y + cin` on 8 bits, with the carry out and the signed overflow of its two addends (rules R263, R264). -/
def addOut (x y : Byte) (cin : Bool) : AluOut :=
  let sum := x.toNat + y.toNat + cin.toNat
  let res := BitVec.ofNat 8 sum
  { res := res
    carry := decide (256 ≤ sum)
    overflow := x.msb == y.msb && res.msb != x.msb }

/-- `A AND B`: no carry, no overflow (rules R263, R264). -/
def andOut (a b : Byte) : AluOut := { res := a &&& b, carry := false, overflow := false }

/-- The four modes the ROM emits; the harness defines no other (rule R263). -/
def aluOut (m : AluMode) (a b : Byte) (cin : Bool) : Option AluOut :=
  match m with
  | .aPlusB => some (addOut a b cin)
  | .aMinusB => some (addOut a (b ^^^ 0xFF#8) cin)
  | .bMinusA => some (addOut b (a ^^^ 0xFF#8) cin)
  | .aAndB => some (andOut a b)
  | .incA | .aOrB | .aXorB | .notA => none

/-- The flags of an ALU result (rule R264). -/
def AluOut.flags (out : AluOut) : Flags :=
  { c := out.carry, z := out.res == 0#8, o := out.overflow, n := out.res.msb }

/-- Whether a jump condition holds of the flags (rule R74). -/
def condHolds (c : Cond) (f : Flags) : Bool :=
  match c with
  | .carry => f.c
  | .zero => f.z
  | .oflow => f.o
  | .neg => f.n
  | .notCarry => !f.c
  | .notZero => !f.z
  | .notOflow => !f.o
  | .notNeg => !f.n

end Sys2Proof.Machine
end

