-- ==== Sys2Proof/Syntax.lean ====
section
/-! DEFINITION. The abstract syntax: one constructor for each row of spec/opcode_table.json. A row of the table is one
opcode value (maps R91 to R94), so an opcode's constructor has no operand: its registers are part of its name, and an
immediate byte is read from program memory by the instruction's own microsteps (rule R76, log 19). The first nine
constructors are the LCD's command classes (rule R97), each with the argument bits of the command byte (log 13);
they stand first because Lean's runtime numbers no constructor with fields above 244. -/

namespace Sys2Proof

/-- The instructions. Names: `movRaRb` is `mov Ra, Rb`; `lodRaAtRb` is `lod Ra, *Rb`; `lodRaPgmRc` is
`lod Ra, PGM*Rc`; `stoAtRaRb` is `sto *Ra = Rb`; the suffix `Sto` marks the STO group's second spelling of `ret` and
`pop`; `lccRegRa` and `lcdRegRa` are the ALU group's `lcc Ra` and `lcd Ra`. -/
inductive Instr where
  -- the LCD command port, 45_lcd.md
  /-- Command `0x80`, `LCD SET_DRAM_ADDR`, argument bits `0x7F` (rule R225). -/
  | lcdSetDramAddr (arg : Byte)
  /-- Command `0x40`, `LCD SET_CGRAM_ADDR`, argument bits `0x3F` (rule R226). -/
  | lcdSetCgramAddr (arg : Byte)
  /-- Command `0x20`, `LCD function set (bit 5, no action)`, argument bits `0x1F` (rule R227). -/
  | lcdFunctionSet (arg : Byte)
  /-- Command `0x10`, `LCD SHIFT`, argument bits `0x0F` (rule R226). -/
  | lcdShift (arg : Byte)
  /-- Command `0x08`, `LCD DISPLAY`, argument bits `0x07` (rule R228). -/
  | lcdDisplay (arg : Byte)
  /-- Command `0x04`, `LCD ENTRY_MODE`, argument bits `0x03` (rule R229). -/
  | lcdEntryMode (arg : Byte)
  /-- Command `0x02`, `LCD HOME`, argument bits `0x01` (rule R230). -/
  | lcdHome (arg : Byte)
  /-- Command `0x01`, `LCD CLEAR` (rule R231). -/
  | lcdClear
  /-- Command `0x00`, `LCD no command (0x00)` (rule R227). -/
  | lcdNoCommand
  -- MOV group, 41_mov.md
  /-- `0x00` `hlt` (rule R137). -/
  | hlt
  /-- `0x01` `jmp Ra` (rule R136). -/
  | jmpRa
  /-- `0x02` `jmp Rb` (rule R136). -/
  | jmpRb
  /-- `0x03` `jmp Rc` (rule R136). -/
  | jmpRc
  /-- `0x04` `jmp Rd` (rule R136). -/
  | jmpRd
  /-- `0x05` `jmp StP` (rule R136). -/
  | jmpStp
  /-- `0x06` `jmp StPi` (rule R136). -/
  | jmpStpi
  /-- `0x07` `jmpi Imm` (rule R133). -/
  | jmpi
  /-- `0x08` `mov Ra, PC` (rule R136). -/
  | movRaPc
  /-- `0x09` `nop` (rule R140). -/
  | nop
  /-- `0x0A` `mov Ra, Rb` (rule R136). -/
  | movRaRb
  /-- `0x0B` `mov Ra, Rc` (rule R136). -/
  | movRaRc
  /-- `0x0C` `mov Ra, Rd` (rule R136). -/
  | movRaRd
  /-- `0x0D` `mov Ra, StP` (rule R136). -/
  | movRaStp
  /-- `0x0E` `mov Ra, StPi` (rule R136). -/
  | movRaStpi
  /-- `0x0F` `movi Ra, Imm` (rule R132). -/
  | moviRa
  /-- `0x10` `mov Rb, PC` (rule R136). -/
  | movRbPc
  /-- `0x11` `mov Rb, Ra` (rule R136). -/
  | movRbRa
  /-- `0x12` `undefined` (rule R138). -/
  | undefined12
  /-- `0x13` `mov Rb, Rc` (rule R136). -/
  | movRbRc
  /-- `0x14` `mov Rb, Rd` (rule R136). -/
  | movRbRd
  /-- `0x15` `mov Rb, StP` (rule R136). -/
  | movRbStp
  /-- `0x16` `mov Rb, StPi` (rule R136). -/
  | movRbStpi
  /-- `0x17` `movi Rb, Imm` (rule R132). -/
  | moviRb
  /-- `0x18` `mov Rc, PC` (rule R136). -/
  | movRcPc
  /-- `0x19` `mov Rc, Ra` (rule R136). -/
  | movRcRa
  /-- `0x1A` `mov Rc, Rb` (rule R136). -/
  | movRcRb
  /-- `0x1B` `undefined` (rule R138). -/
  | undefined1B
  /-- `0x1C` `mov Rc, Rd` (rule R136). -/
  | movRcRd
  /-- `0x1D` `mov Rc, StP` (rule R136). -/
  | movRcStp
  /-- `0x1E` `mov Rc, StPi` (rule R136). -/
  | movRcStpi
  /-- `0x1F` `movi Rc, Imm` (rule R132). -/
  | moviRc
  /-- `0x20` `mov Rd, PC` (rule R136). -/
  | movRdPc
  /-- `0x21` `mov Rd, Ra` (rule R136). -/
  | movRdRa
  /-- `0x22` `mov Rd, Rb` (rule R136). -/
  | movRdRb
  /-- `0x23` `mov Rd, Rc` (rule R136). -/
  | movRdRc
  /-- `0x24` `undefined` (rule R138). -/
  | undefined24
  /-- `0x25` `mov Rd, StP` (rule R136). -/
  | movRdStp
  /-- `0x26` `mov Rd, StPi` (rule R136). -/
  | movRdStpi
  /-- `0x27` `movi Rd, Imm` (rule R132). -/
  | moviRd
  /-- `0x28` `mov StP, PC` (rule R136). -/
  | movStpPc
  /-- `0x29` `mov StP, Ra` (rule R136). -/
  | movStpRa
  /-- `0x2A` `mov StP, Rb` (rule R136). -/
  | movStpRb
  /-- `0x2B` `mov StP, Rc` (rule R136). -/
  | movStpRc
  /-- `0x2C` `mov StP, Rd` (rule R136). -/
  | movStpRd
  /-- `0x2D` `undefined` (rule R138). -/
  | undefined2D
  /-- `0x2E` `mov StP, StPi` (rule R136). -/
  | movStpStpi
  /-- `0x2F` `movi StP, Imm` (rule R132). -/
  | moviStp
  /-- `0x30` `jmz` (rule R134). -/
  | jmz
  /-- `0x31` `tst Ra` (rule R135). -/
  | tstRa
  /-- `0x32` `tst Rb` (rule R135). -/
  | tstRb
  /-- `0x33` `tst Rc` (rule R135). -/
  | tstRc
  /-- `0x34` `tst Rd` (rule R135). -/
  | tstRd
  /-- `0x35` `tst StP` (rule R135). -/
  | tstStp
  /-- `0x36` `undefined` (rule R138). -/
  | undefined36
  /-- `0x37` `clra` (rule R131). -/
  | clra
  /-- `0x38` `jc Imm` (rule R130). -/
  | jc
  /-- `0x39` `jz Imm` (rule R130). -/
  | jz
  /-- `0x3A` `jo Imm` (rule R130). -/
  | jo
  /-- `0x3B` `jnn Imm` (rule R130). -/
  | jnn
  /-- `0x3C` `jn Imm` (rule R130). -/
  | jn
  /-- `0x3D` `jno Imm` (rule R130). -/
  | jno
  /-- `0x3E` `jnz Imm` (rule R130). -/
  | jnz
  /-- `0x3F` `jnc Imm` (rule R130). -/
  | jnc
  -- LOD group, 42_lod.md
  /-- `0x40` `lod PC, *PC` (rule R161). -/
  | lodPcAtPc
  /-- `0x41` `lod PC, *Ra` (rule R161). -/
  | lodPcAtRa
  /-- `0x42` `lod PC, *Rb` (rule R161). -/
  | lodPcAtRb
  /-- `0x43` `lod PC, PGM*Rc` (rule R161). -/
  | lodPcPgmRc
  /-- `0x44` `lod PC, *Rd` (rule R161). -/
  | lodPcAtRd
  /-- `0x45` `lod PC, *StP` (rule R161). -/
  | lodPcAtStp
  /-- `0x46` `ret` (rule R155). -/
  | ret
  /-- `0x47` `lod PC, *Imm` (rule R158). -/
  | lodPcAtImm
  /-- `0x48` `lod Ra, *PC` (rule R161). -/
  | lodRaAtPc
  /-- `0x49` `lod Ra, *Ra` (rule R161). -/
  | lodRaAtRa
  /-- `0x4A` `lod Ra, *Rb` (rule R161). -/
  | lodRaAtRb
  /-- `0x4B` `lod Ra, PGM*Rc` (rule R161). -/
  | lodRaPgmRc
  /-- `0x4C` `lod Ra, *Rd` (rule R161). -/
  | lodRaAtRd
  /-- `0x4D` `lod Ra, *StP` (rule R161). -/
  | lodRaAtStp
  /-- `0x4E` `pop Ra` (rule R156). -/
  | popRa
  /-- `0x4F` `lod Ra, *Imm` (rule R158). -/
  | lodRaAtImm
  /-- `0x50` `lod Rb, *PC` (rule R161). -/
  | lodRbAtPc
  /-- `0x51` `lod Rb, *Ra` (rule R161). -/
  | lodRbAtRa
  /-- `0x52` `lod Rb, *Rb` (rule R161). -/
  | lodRbAtRb
  /-- `0x53` `lod Rb, PGM*Rc` (rule R161). -/
  | lodRbPgmRc
  /-- `0x54` `lod Rb, *Rd` (rule R161). -/
  | lodRbAtRd
  /-- `0x55` `lod Rb, *StP` (rule R161). -/
  | lodRbAtStp
  /-- `0x56` `pop Rb` (rule R156). -/
  | popRb
  /-- `0x57` `lod Rb, *Imm` (rule R158). -/
  | lodRbAtImm
  /-- `0x58` `lod Rc, *PC` (rule R161). -/
  | lodRcAtPc
  /-- `0x59` `lod Rc, *Ra` (rule R161). -/
  | lodRcAtRa
  /-- `0x5A` `lod Rc, *Rb` (rule R161). -/
  | lodRcAtRb
  /-- `0x5B` `lod Rc, PGM*Rc` (rule R161). -/
  | lodRcPgmRc
  /-- `0x5C` `lod Rc, *Rd` (rule R161). -/
  | lodRcAtRd
  /-- `0x5D` `lod Rc, *StP` (rule R161). -/
  | lodRcAtStp
  /-- `0x5E` `pop Rc` (rule R156). -/
  | popRc
  /-- `0x5F` `lod Rc, *Imm` (rule R158). -/
  | lodRcAtImm
  /-- `0x60` `lod Rd, *PC` (rule R161). -/
  | lodRdAtPc
  /-- `0x61` `lod Rd, *Ra` (rule R161). -/
  | lodRdAtRa
  /-- `0x62` `lod Rd, *Rb` (rule R161). -/
  | lodRdAtRb
  /-- `0x63` `lod Rd, PGM*Rc` (rule R161). -/
  | lodRdPgmRc
  /-- `0x64` `lod Rd, *Rd` (rule R161). -/
  | lodRdAtRd
  /-- `0x65` `lod Rd, *StP` (rule R161). -/
  | lodRdAtStp
  /-- `0x66` `pop Rd` (rule R156). -/
  | popRd
  /-- `0x67` `lod Rd, *Imm` (rule R158). -/
  | lodRdAtImm
  /-- `0x68` `lod StP, *PC` (rule R161). -/
  | lodStpAtPc
  /-- `0x69` `lod StP, *Ra` (rule R161). -/
  | lodStpAtRa
  /-- `0x6A` `lod StP, *Rb` (rule R161). -/
  | lodStpAtRb
  /-- `0x6B` `lod StP, PGM*Rc` (rule R161). -/
  | lodStpPgmRc
  /-- `0x6C` `lod StP, *Rd` (rule R161). -/
  | lodStpAtRd
  /-- `0x6D` `lod StP, *StP` (rule R161). -/
  | lodStpAtStp
  /-- `0x6E` `pop StP` (rule R156). -/
  | popStp
  /-- `0x6F` `lod StP, *Imm` (rule R158). -/
  | lodStpAtImm
  /-- `0x70` `peek PC` (rule R150). -/
  | peekPc
  /-- `0x71` `peek Ra` (rule R150). -/
  | peekRa
  /-- `0x72` `peek Rb` (rule R150). -/
  | peekRb
  /-- `0x73` `peek Rc` (rule R150). -/
  | peekRc
  /-- `0x74` `peek Rd` (rule R150). -/
  | peekRd
  /-- `0x75` `lcc mem` (rule R151). -/
  | lccMem
  /-- `0x76` `lcc pgm` (rule R153). -/
  | lccPgm
  /-- `0x77` `lcd pgm` (rule R154). -/
  | lcdPgm
  /-- `0x78` `clr PC` (rule R160). -/
  | clrPc
  /-- `0x79` `clr Ra` (rule R160). -/
  | clrRa
  /-- `0x7A` `clr Rb` (rule R160). -/
  | clrRb
  /-- `0x7B` `clr Rc` (rule R160). -/
  | clrRc
  /-- `0x7C` `clr Rd` (rule R160). -/
  | clrRd
  /-- `0x7D` `clr StP` (rule R160). -/
  | clrStp
  /-- `0x7E` `lcc imm` (rule R157). -/
  | lccImm
  /-- `0x7F` `lcd imm` (rule R159). -/
  | lcdImm
  -- STO group, 43_sto.md
  /-- `0x80` `sto *PC = PC` (rule R188). -/
  | stoAtPcPc
  /-- `0x81` `sto *PC = Ra` (rule R188). -/
  | stoAtPcRa
  /-- `0x82` `sto *PC = Rb` (rule R188). -/
  | stoAtPcRb
  /-- `0x83` `sto *PC = Rc` (rule R188). -/
  | stoAtPcRc
  /-- `0x84` `sto *PC = Rd` (rule R188). -/
  | stoAtPcRd
  /-- `0x85` `sto *PC = StP` (rule R188). -/
  | stoAtPcStp
  /-- `0x86` `ret` (rule R186). -/
  | retSto
  /-- `0x87` `sto *PC = Imm` (rule R188). -/
  | stoAtPcImm
  /-- `0x88` `sto *Ra = PC` (rule R188). -/
  | stoAtRaPc
  /-- `0x89` `sto *Ra = Ra` (rule R188). -/
  | stoAtRaRa
  /-- `0x8A` `sto *Ra = Rb` (rule R188). -/
  | stoAtRaRb
  /-- `0x8B` `sto *Ra = Rc` (rule R188). -/
  | stoAtRaRc
  /-- `0x8C` `sto *Ra = Rd` (rule R188). -/
  | stoAtRaRd
  /-- `0x8D` `sto *Ra = StP` (rule R188). -/
  | stoAtRaStp
  /-- `0x8E` `pop Ra` (rule R187). -/
  | popRaSto
  /-- `0x8F` `sto *Ra = Imm` (rule R188). -/
  | stoAtRaImm
  /-- `0x90` `sto *Rb = PC` (rule R188). -/
  | stoAtRbPc
  /-- `0x91` `sto *Rb = Ra` (rule R188). -/
  | stoAtRbRa
  /-- `0x92` `sto *Rb = Rb` (rule R188). -/
  | stoAtRbRb
  /-- `0x93` `sto *Rb = Rc` (rule R188). -/
  | stoAtRbRc
  /-- `0x94` `sto *Rb = Rd` (rule R188). -/
  | stoAtRbRd
  /-- `0x95` `sto *Rb = StP` (rule R188). -/
  | stoAtRbStp
  /-- `0x96` `pop Rb` (rule R187). -/
  | popRbSto
  /-- `0x97` `sto *Rb = Imm` (rule R188). -/
  | stoAtRbImm
  /-- `0x98` `sto PGM*Rc = PC` (rule R188). -/
  | stoPgmRcPc
  /-- `0x99` `sto PGM*Rc = Ra` (rule R188). -/
  | stoPgmRcRa
  /-- `0x9A` `sto PGM*Rc = Rb` (rule R188). -/
  | stoPgmRcRb
  /-- `0x9B` `sto PGM*Rc = Rc` (rule R188). -/
  | stoPgmRcRc
  /-- `0x9C` `sto PGM*Rc = Rd` (rule R188). -/
  | stoPgmRcRd
  /-- `0x9D` `sto PGM*Rc = StP` (rule R188). -/
  | stoPgmRcStp
  /-- `0x9E` `pop Rc` (rule R187). -/
  | popRcSto
  /-- `0x9F` `sto PGM*Rc = Imm` (rule R188). -/
  | stoPgmRcImm
  /-- `0xA0` `sto *Rd = PC` (rule R188). -/
  | stoAtRdPc
  /-- `0xA1` `sto *Rd = Ra` (rule R188). -/
  | stoAtRdRa
  /-- `0xA2` `sto *Rd = Rb` (rule R188). -/
  | stoAtRdRb
  /-- `0xA3` `sto *Rd = Rc` (rule R188). -/
  | stoAtRdRc
  /-- `0xA4` `sto *Rd = Rd` (rule R188). -/
  | stoAtRdRd
  /-- `0xA5` `sto *Rd = StP` (rule R188). -/
  | stoAtRdStp
  /-- `0xA6` `pop Rd` (rule R187). -/
  | popRdSto
  /-- `0xA7` `sto *Rd = Imm` (rule R188). -/
  | stoAtRdImm
  /-- `0xA8` `sto *StP = PC` (rule R188). -/
  | stoAtStpPc
  /-- `0xA9` `sto *StP = Ra` (rule R188). -/
  | stoAtStpRa
  /-- `0xAA` `sto *StP = Rb` (rule R188). -/
  | stoAtStpRb
  /-- `0xAB` `sto *StP = Rc` (rule R188). -/
  | stoAtStpRc
  /-- `0xAC` `sto *StP = Rd` (rule R188). -/
  | stoAtStpRd
  /-- `0xAD` `sto *StP = StP` (rule R188). -/
  | stoAtStpStp
  /-- `0xAE` `pop StP` (rule R187). -/
  | popStpSto
  /-- `0xAF` `sto *StP = Imm` (rule R188). -/
  | stoAtStpImm
  /-- `0xB0` `call Rc` (rule R181). -/
  | callRc
  /-- `0xB1` `push Ra` (rule R182). -/
  | pushRa
  /-- `0xB2` `push Rb` (rule R182). -/
  | pushRb
  /-- `0xB3` `push Rc` (rule R182). -/
  | pushRc
  /-- `0xB4` `push Rd` (rule R182). -/
  | pushRd
  /-- `0xB5` `push StP` (rule R182). -/
  | pushStp
  /-- `0xB6` `push StPi` (rule R182). -/
  | pushStpi
  /-- `0xB7` `pushi Imm` (rule R180). -/
  | pushi
  /-- `0xB8` `calli Imm` (rule R183). -/
  | calli
  /-- `0xB9` `stoi Ra` (rule R185). -/
  | stoiRa
  /-- `0xBA` `stoi Rb` (rule R185). -/
  | stoiRb
  /-- `0xBB` `stoi Rc` (rule R185). -/
  | stoiRc
  /-- `0xBC` `stoi Rd` (rule R185). -/
  | stoiRd
  /-- `0xBD` `stoi StP` (rule R185). -/
  | stoiStp
  /-- `0xBE` `stoi StPi` (rule R185). -/
  | stoiStpi
  /-- `0xBF` `stoi Imm, Imm` (rule R184). -/
  | stoiImmImm
  -- ALU group, 44_alu.md
  /-- `0xC0` `inc PC` (rule R200). -/
  | incPc
  /-- `0xC1` `inc Ra` (rule R200). -/
  | incRa
  /-- `0xC2` `inc Rb` (rule R200). -/
  | incRb
  /-- `0xC3` `inc Rc` (rule R200). -/
  | incRc
  /-- `0xC4` `inc Rd` (rule R200). -/
  | incRd
  /-- `0xC5` `inc StP` (rule R200). -/
  | incStp
  /-- `0xC6` `inc StPi` (rule R200). -/
  | incStpi
  /-- `0xC7` `inc Imm` (rule R200). -/
  | incImm
  /-- `0xC8` `add PC` (rule R201). -/
  | addPc
  /-- `0xC9` `add Ra` (rule R201). -/
  | addRa
  /-- `0xCA` `add Rb` (rule R201). -/
  | addRb
  /-- `0xCB` `add Rc` (rule R201). -/
  | addRc
  /-- `0xCC` `add Rd` (rule R201). -/
  | addRd
  /-- `0xCD` `add StP` (rule R201). -/
  | addStp
  /-- `0xCE` `add StPi` (rule R201). -/
  | addStpi
  /-- `0xCF` `add Imm` (rule R201). -/
  | addImm
  /-- `0xD0` `sub PC` (rule R202). -/
  | subPc
  /-- `0xD1` `sub Ra` (rule R202). -/
  | subRa
  /-- `0xD2` `sub Rb` (rule R202). -/
  | subRb
  /-- `0xD3` `sub Rc` (rule R202). -/
  | subRc
  /-- `0xD4` `sub Rd` (rule R202). -/
  | subRd
  /-- `0xD5` `sub StP` (rule R202). -/
  | subStp
  /-- `0xD6` `sub StPi` (rule R202). -/
  | subStpi
  /-- `0xD7` `sub Imm` (rule R202). -/
  | subImm
  /-- `0xD8` `rsb PC` (rule R203). -/
  | rsbPc
  /-- `0xD9` `rsb Ra` (rule R203). -/
  | rsbRa
  /-- `0xDA` `rsb Rb` (rule R203). -/
  | rsbRb
  /-- `0xDB` `rsb Rc` (rule R203). -/
  | rsbRc
  /-- `0xDC` `rsb Rd` (rule R203). -/
  | rsbRd
  /-- `0xDD` `rsb StP` (rule R203). -/
  | rsbStp
  /-- `0xDE` `rsb StPi` (rule R203). -/
  | rsbStpi
  /-- `0xDF` `rsb Imm` (rule R203). -/
  | rsbImm
  /-- `0xE0` `cmp PC, Rb` (rule R204). -/
  | cmpPcRb
  /-- `0xE1` `cmp Ra, Rb` (rule R204). -/
  | cmpRaRb
  /-- `0xE2` `cmp Rb, Rb` (rule R204). -/
  | cmpRbRb
  /-- `0xE3` `cmp Rc, Rb` (rule R204). -/
  | cmpRcRb
  /-- `0xE4` `cmp Rd, Rb` (rule R204). -/
  | cmpRdRb
  /-- `0xE5` `cmp StP, Rb` (rule R204). -/
  | cmpStpRb
  /-- `0xE6` `cmp StPi, Rb` (rule R204). -/
  | cmpStpiRb
  /-- `0xE7` `cmp Imm, Rb` (rule R204). -/
  | cmpImmRb
  /-- `0xE8` `cmp Rb, PC` (rule R205). -/
  | cmpRbPc
  /-- `0xE9` `cmp Rb, Ra` (rule R205). -/
  | cmpRbRa
  /-- `0xEA` `cmp Rb, Rb` (rule R205). -/
  | cmpRbRbRev
  /-- `0xEB` `cmp Rb, Rc` (rule R205). -/
  | cmpRbRc
  /-- `0xEC` `cmp Rb, Rd` (rule R205). -/
  | cmpRbRd
  /-- `0xED` `cmp Rb, StP` (rule R205). -/
  | cmpRbStp
  /-- `0xEE` `cmp Rb, StPi` (rule R205). -/
  | cmpRbStpi
  /-- `0xEF` `cmp Rb, Imm` (rule R205). -/
  | cmpRbImm
  /-- `0xF0` `lcc PC` (rule R206). -/
  | lccRegPc
  /-- `0xF1` `lcc Ra` (rule R206). -/
  | lccRegRa
  /-- `0xF2` `lcc Rb` (rule R206). -/
  | lccRegRb
  /-- `0xF3` `lcc Rc` (rule R206). -/
  | lccRegRc
  /-- `0xF4` `lcc Rd` (rule R206). -/
  | lccRegRd
  /-- `0xF5` `lcc StP` (rule R206). -/
  | lccRegStp
  /-- `0xF6` `lcc StPi` (rule R206). -/
  | lccRegStpi
  /-- `0xF7` `lcc Imm` (rule R206). -/
  | lccRegImm
  /-- `0xF8` `lcd PC` (rule R207). -/
  | lcdRegPc
  /-- `0xF9` `lcd Ra` (rule R207). -/
  | lcdRegRa
  /-- `0xFA` `lcd Rb` (rule R207). -/
  | lcdRegRb
  /-- `0xFB` `lcd Rc` (rule R207). -/
  | lcdRegRc
  /-- `0xFC` `lcd Rd` (rule R207). -/
  | lcdRegRd
  /-- `0xFD` `lcd StP` (rule R207). -/
  | lcdRegStp
  /-- `0xFE` `lcd StPi` (rule R207). -/
  | lcdRegStpi
  /-- `0xFF` `lcd Imm` (rule R207). -/
  | lcdRegImm
  deriving DecidableEq, Repr

end Sys2Proof
end

