-- ==== Sys2Proof/WellFormed.lean ====
section
/-! DEFINITION. The checks: an instruction's argument bits (rule R97), an admissible layout of the control word
(rules R85, R86), the constraints on the OPEN sequences (rules R115, R153, R157, R183, R184) and the LCD's
construction bounds (rule R224). -/

namespace Sys2Proof

/-! ### Instructions -/

/-- The argument bits of a command class stay under the class's bit (rule R97). An opcode has no operand that could be
ill formed. -/
def Instr.wf : Instr → Bool
  | .lcdSetDramAddr arg => decide (arg.toNat < 128)
  | .lcdSetCgramAddr arg => decide (arg.toNat < 64)
  | .lcdFunctionSet arg => decide (arg.toNat < 32)
  | .lcdShift arg => decide (arg.toNat < 16)
  | .lcdDisplay arg => decide (arg.toNat < 8)
  | .lcdEntryMode arg => decide (arg.toNat < 4)
  | .lcdHome arg => decide (arg.toNat < 2)
  | .lcdClear | .lcdNoCommand => true
  | .hlt | .jmpRa | .jmpRb | .jmpRc | .jmpRd | .jmpStp | .jmpStpi | .jmpi
  | .movRaPc | .nop | .movRaRb | .movRaRc | .movRaRd | .movRaStp | .movRaStpi | .moviRa
  | .movRbPc | .movRbRa | .undefined12 | .movRbRc | .movRbRd | .movRbStp | .movRbStpi | .moviRb
  | .movRcPc | .movRcRa | .movRcRb | .undefined1B | .movRcRd | .movRcStp | .movRcStpi | .moviRc
  | .movRdPc | .movRdRa | .movRdRb | .movRdRc | .undefined24 | .movRdStp | .movRdStpi | .moviRd
  | .movStpPc | .movStpRa | .movStpRb | .movStpRc | .movStpRd | .undefined2D | .movStpStpi | .moviStp
  | .jmz | .tstRa | .tstRb | .tstRc | .tstRd | .tstStp | .undefined36 | .clra
  | .jc | .jz | .jo | .jnn | .jn | .jno | .jnz | .jnc
  | .lodPcAtPc | .lodPcAtRa | .lodPcAtRb | .lodPcPgmRc | .lodPcAtRd | .lodPcAtStp | .ret | .lodPcAtImm
  | .lodRaAtPc | .lodRaAtRa | .lodRaAtRb | .lodRaPgmRc | .lodRaAtRd | .lodRaAtStp | .popRa | .lodRaAtImm
  | .lodRbAtPc | .lodRbAtRa | .lodRbAtRb | .lodRbPgmRc | .lodRbAtRd | .lodRbAtStp | .popRb | .lodRbAtImm
  | .lodRcAtPc | .lodRcAtRa | .lodRcAtRb | .lodRcPgmRc | .lodRcAtRd | .lodRcAtStp | .popRc | .lodRcAtImm
  | .lodRdAtPc | .lodRdAtRa | .lodRdAtRb | .lodRdPgmRc | .lodRdAtRd | .lodRdAtStp | .popRd | .lodRdAtImm
  | .lodStpAtPc | .lodStpAtRa | .lodStpAtRb | .lodStpPgmRc | .lodStpAtRd | .lodStpAtStp | .popStp | .lodStpAtImm
  | .peekPc | .peekRa | .peekRb | .peekRc | .peekRd | .lccMem | .lccPgm | .lcdPgm
  | .clrPc | .clrRa | .clrRb | .clrRc | .clrRd | .clrStp | .lccImm | .lcdImm
  | .stoAtPcPc | .stoAtPcRa | .stoAtPcRb | .stoAtPcRc | .stoAtPcRd | .stoAtPcStp | .retSto | .stoAtPcImm
  | .stoAtRaPc | .stoAtRaRa | .stoAtRaRb | .stoAtRaRc | .stoAtRaRd | .stoAtRaStp | .popRaSto | .stoAtRaImm
  | .stoAtRbPc | .stoAtRbRa | .stoAtRbRb | .stoAtRbRc | .stoAtRbRd | .stoAtRbStp | .popRbSto | .stoAtRbImm
  | .stoPgmRcPc | .stoPgmRcRa | .stoPgmRcRb | .stoPgmRcRc | .stoPgmRcRd | .stoPgmRcStp | .popRcSto | .stoPgmRcImm
  | .stoAtRdPc | .stoAtRdRa | .stoAtRdRb | .stoAtRdRc | .stoAtRdRd | .stoAtRdStp | .popRdSto | .stoAtRdImm
  | .stoAtStpPc | .stoAtStpRa | .stoAtStpRb | .stoAtStpRc | .stoAtStpRd | .stoAtStpStp | .popStpSto | .stoAtStpImm
  | .callRc | .pushRa | .pushRb | .pushRc | .pushRd | .pushStp | .pushStpi | .pushi
  | .calli | .stoiRa | .stoiRb | .stoiRc | .stoiRd | .stoiStp | .stoiStpi | .stoiImmImm
  | .incPc | .incRa | .incRb | .incRc | .incRd | .incStp | .incStpi | .incImm
  | .addPc | .addRa | .addRb | .addRc | .addRd | .addStp | .addStpi | .addImm
  | .subPc | .subRa | .subRb | .subRc | .subRd | .subStp | .subStpi | .subImm
  | .rsbPc | .rsbRa | .rsbRb | .rsbRc | .rsbRd | .rsbStp | .rsbStpi | .rsbImm
  | .cmpPcRb | .cmpRaRb | .cmpRbRb | .cmpRcRb | .cmpRdRb | .cmpStpRb | .cmpStpiRb | .cmpImmRb
  | .cmpRbPc | .cmpRbRa | .cmpRbRbRev | .cmpRbRc | .cmpRbRd | .cmpRbStp | .cmpRbStpi | .cmpRbImm
  | .lccRegPc | .lccRegRa | .lccRegRb | .lccRegRc | .lccRegRd | .lccRegStp | .lccRegStpi | .lccRegImm
  | .lcdRegPc | .lcdRegRa | .lcdRegRb | .lcdRegRc | .lcdRegRd | .lcdRegStp | .lcdRegStpi | .lcdRegImm => true

/-! ### Signal sets -/

/-- A bus-write source: `W(r)`, `BW_MEM` or `BW_ALU` (rule R80). -/
def Signal.isDriver : Signal → Bool
  | .w _ | .bwMem | .bwAlu => true
  | .r _ | .maw | .irw | .stpw | .alu _ | .alb | .alc | .alw | .mw | .lcd | .lcdCommand | .lcdData | .pgm | .pcc
  | .hlt | .tr => false

/-- An ALU mode select. -/
def Signal.isAlu : Signal → Bool
  | .alu _ => true
  | .w _ | .bwMem | .bwAlu | .r _ | .maw | .irw | .stpw | .alb | .alc | .alw | .mw | .lcd | .lcdCommand | .lcdData
  | .pgm | .pcc | .hlt | .tr => false

/-- No two different signals of a kind stand in the set. -/
def SigSet.atMostOne (kind : Signal → Bool) (S : SigSet) : Bool :=
  S.all fun a => S.all fun b => !(kind a && kind b) || a == b

/-- At most one bus driver (rule R88). -/
def SigSet.oneDriver (S : SigSet) : Bool := SigSet.atMostOne Signal.isDriver S

/-- At most one ALU mode (rules R30, R115 (d)). -/
def SigSet.oneMode (S : SigSet) : Bool := SigSet.atMostOne Signal.isAlu S

/-! ### The OPEN sequences -/

/-- The shape of a sequence of `n` microsteps (rule R115): one to six of them, `_TR` in the last and in no earlier one,
one driver and one ALU mode at most in each. -/
def seqShape (n : Nat) (q : List SigSet) : Bool :=
  q.length == n && (1 ≤ n && n ≤ 6)
    && q.dropLast.all (fun S => !S.contains .tr) && q.getLast?.any (fun S => S.contains .tr)
    && q.all SigSet.oneDriver && q.all SigSet.oneMode

/-- No step of the sequence holds the signal. -/
def seqWithout (g : Signal) (q : List SigSet) : Bool := q.all fun S => !S.contains g

/-- Exactly one step of the sequence meets the test. -/
def exactlyOne (p : SigSet → Bool) (q : List SigSet) : Bool := q.countP p == 1

/-- What rule R157 asks of `SEQ_LCC_IMM`, its effect apart. -/
def lccImmShape (q : List SigSet) : Bool :=
  seqShape 3 q && exactlyOne (fun S => S.contains .lcd && S.contains .lcdCommand) q
    && seqWithout .lcdData q && seqWithout .hlt q

/-- What rule R153 asks of `SEQ_LCC_PGM`. -/
def lccPgmShape (q : List SigSet) : Bool :=
  seqShape 4 q && exactlyOne (fun S => S.contains .lcd && S.contains .lcdCommand) q
    && q.all (fun S => !(S.contains .lcd && S.contains .lcdCommand) || (S.contains .pgm && S.contains .bwMem))
    && seqWithout .lcdData q && seqWithout .hlt q

/-- What rule R183 asks of `SEQ_CALLI`, its effect apart. -/
def calliShape (q : List SigSet) : Bool :=
  seqShape 6 q && q.any (fun S => S.contains .mw && !S.contains .pgm)
    && q.getLast?.any (fun S => S.contains (.r .pc) && S.contains .tr)
    && seqWithout .lcd q && seqWithout .hlt q

/-- What rule R184 asks of `SEQ_STOI`, its effect apart. -/
def stoiShape (q : List SigSet) : Bool :=
  seqShape 5 q && exactlyOne (fun S => S.contains .mw && S.contains .pgm) q
    && seqWithout .lcd q && seqWithout .hlt q

/-- The four OPEN sequences have the shapes their rules ask for (decisions D17 to D20). -/
def OpenSeqs.wf (P : OpenSeqs) : Bool :=
  lccImmShape P.lccImm && lccPgmShape P.lccPgm && calliShape P.calli && stoiShape P.stoi

/-! ### The layout of the control word -/

/-- The bit positions of the fourteen one-bit signals (rule R85). -/
def Layout.bits (L : Layout) : List Nat :=
  [L.pgm, L.maw, L.mw, L.irw, L.alw, L.pcc, L.alc, L.alb, L.lcd, L.lcdCommand, L.lcdData, L.hlt, L.tr, L.stpw]

/-- The bits of a 3-bit field. -/
def fieldBits (offset : Nat) : List Nat := [offset, offset + 1, offset + 2]

/-- The bits of the three 3-bit fields. -/
def Layout.fields (L : Layout) : List Nat :=
  fieldBits L.wOffset ++ fieldBits L.rOffset ++ fieldBits L.aluOffset

/-- A packing of `BW_MEM` or `BW_ALU` is a bit outside all others, or a nonzero code of the bus-source field
(rule R86). -/
def Layout.busMaskOk (L : Layout) : BusMask → Bool
  | .bit p => decide (p < 32) && !(L.bits ++ L.fields).contains p
  | .code c => c != 0#3

/-- The admissible layouts: positions below 32, all distinct, the fields disjoint and free of them (rules R85, R86). -/
def Layout.wf (L : Layout) : Bool :=
  (L.bits ++ L.fields).all (fun p => decide (p < 32)) && decide (L.bits ++ L.fields).Nodup
    && L.busMaskOk L.bwMem && L.busMaskOk L.bwAlu

/-! ### The LCD -/

/-- The construction bounds of the LCD (rule R224, decision D31). -/
def geometryOk (width height : Nat) : Bool := decide (1 ≤ width) && decide (1 ≤ height) && decide (height ≤ 4)

end Sys2Proof
end

