-- ==== Sys2Proof/Decode.lean ====
section
/-! DEFINITION. The decoder of instruction bytes and, after it, the encoder: the opcode's fields (rules R70 to R74),
the forms that the ordered dispatch selects (rules R90, R139, R162, R189, R208), the opcode maps (rules R91 to R94), the
LCD's command bytes (rule R97), and the words back from the same tables. -/

namespace Sys2Proof

/-! ### Codes and fields -/

/-- A group's two bits (rule R70). -/
def Group.code : Group → BitVec 2
  | .mov => 0b00#2
  | .lod => 0b01#2
  | .sto => 0b10#2
  | .alu => 0b11#2

/-- The group of two bits (rule R70). -/
def Group.ofCode (c : BitVec 2) : Group :=
  match c.toNat with
  | 0 => .mov
  | 1 => .lod
  | 2 => .sto
  | _ => .alu

/-- A register's 3-bit code (rule R23). -/
def Reg.code : Reg → BitVec 3
  | .pc => 0#3
  | .ra => 1#3
  | .rb => 2#3
  | .rc => 3#3
  | .rd => 4#3
  | .stp => 5#3
  | .stpi => 6#3
  | .imm => 7#3

/-- The register of a 3-bit code (rule R23). -/
def Reg.ofCode (c : BitVec 3) : Reg :=
  match c.toNat with
  | 0 => .pc
  | 1 => .ra
  | 2 => .rb
  | 3 => .rc
  | 4 => .rd
  | 5 => .stp
  | 6 => .stpi
  | _ => .imm

/-- A mode's numeric code, `aluCode` (rule R72, decision D4). -/
def AluMode.code : AluMode → BitVec 3
  | .incA => 0#3
  | .aPlusB => 1#3
  | .aMinusB => 2#3
  | .bMinusA => 3#3
  | .aAndB => 4#3
  | .aOrB => 5#3
  | .aXorB => 6#3
  | .notA => 7#3

/-- The mode of `op[5:3]` (rule R72). -/
def AluMode.ofCode (c : BitVec 3) : AluMode :=
  match c.toNat with
  | 0 => .incA
  | 1 => .aPlusB
  | 2 => .aMinusB
  | 3 => .bMinusA
  | 4 => .aAndB
  | 5 => .aOrB
  | 6 => .aXorB
  | _ => .notA

/-- A condition's 3-bit selector; a negated condition has the complement of the plain one's (rule R74). -/
def Cond.code : Cond → BitVec 3
  | .carry => 0b000#3
  | .zero => 0b001#3
  | .oflow => 0b010#3
  | .neg => 0b100#3
  | .notCarry => 0b111#3
  | .notZero => 0b110#3
  | .notOflow => 0b101#3
  | .notNeg => 0b011#3

/-- The condition of a selector: all eight values select one (rule R74). -/
def Cond.ofCode (c : BitVec 3) : Cond :=
  match c.toNat with
  | 0 => .carry
  | 1 => .zero
  | 2 => .oflow
  | 3 => .notNeg
  | 4 => .neg
  | 5 => .notOflow
  | 6 => .notZero
  | _ => .notCarry

/-- `group = op[7:6]` (rule R70). -/
def opGroup (op : Byte) : Group := Group.ofCode (op.extractLsb' 6 2)

/-- `dest = op[5:3]` (rule R70). -/
def opDest (op : Byte) : Reg := Reg.ofCode (op.extractLsb' 3 3)

/-- `src = op[2:0]`, the ALU group's `reg` (rules R70, R71). -/
def opSrc (op : Byte) : Reg := Reg.ofCode (op.extractLsb' 0 3)

/-- The ALU group's mode, `op[5:3]` (rules R71, R72). -/
def opMode (op : Byte) : AluMode := AluMode.ofCode (op.extractLsb' 3 3)

/-! ### The forms, by ordered dispatch (rule R90) -/

/-- The MOV group's dispatch, first match wins (rule R139). Destination code 6 is `Acc` (rule R24). -/
def formOfMov (d s : Reg) : Form :=
  if d = .imm then .condJump (Cond.ofCode s.code)
  else if s = .imm ∧ d = .stpi then .clra
  else if s = .imm ∧ d = .pc then .jmpi
  else if s = .imm then .movi d
  else if d = .stpi ∧ s = .pc then .jmz
  else if d = .stpi ∧ s ≠ d then .tst s
  else if s ≠ d then .mov d s
  else if s = .pc then .hlt
  else if s = .ra then .nop
  else .undef

/-- The LOD group's dispatch, first match wins (rule R162). Its third line (`lcd mem`) is never reached, since the first
one owns `s = PC` (rule R152). -/
def formOfLod (d s : Reg) : Form :=
  if d = .stpi ∧ s.code < Reg.stp.code then .peek s
  else if d = .stpi ∧ s = .stp then .lccMem
  else if d = .stpi ∧ s = .stpi then .lccPgm
  else if d = .stpi ∧ s = .imm then .lcdPgm
  else if s = .stpi ∧ d = .pc then .ret
  else if s = .stpi ∧ d ≠ .imm then .pop d
  else if s = .stpi ∧ d = .imm then .lccImm
  else if s = .imm ∧ d ≠ s then .lodImm d
  else if s = .imm ∧ d = s then .lcdImm
  else if d = .imm then .clr s
  else .lod d s

/-- The STO group's dispatch, first match wins (rule R189). -/
def formOfSto (d s : Reg) : Form :=
  if d = .stpi ∧ s = .imm then .pushi
  else if d = .stpi ∧ s = .pc then .call
  else if d = .stpi then .push s
  else if d = .imm ∧ s = .pc then .calli
  else if d = .imm ∧ s = .imm then .stoiImm
  else if d = .imm then .stoi s
  else if s = .stpi ∧ d = .pc then .ret
  else if s = .stpi then .pop d
  else .sto d s

/-- The ALU group's dispatch on its mode (rule R208). -/
def formOfAlu (m : AluMode) (r : Reg) : Form :=
  match m with
  | .incA => .inc r
  | .aPlusB => .add r
  | .aMinusB => .sub r
  | .bMinusA => .rsb r
  | .aAndB => .cmpRegRb r
  | .aOrB => .cmpRbReg r
  | .aXorB => .lccReg r
  | .notA => .lcdReg r

/-- The form of every opcode (rules R90, R139, R162, R189, R208). -/
def formOf (op : Byte) : Form :=
  match opGroup op with
  | .mov => formOfMov (opDest op) (opSrc op)
  | .lod => formOfLod (opDest op) (opSrc op)
  | .sto => formOfSto (opDest op) (opSrc op)
  | .alu => formOfAlu (opMode op) (opSrc op)

/-- How many bytes of program memory an instruction of the form takes (rule R77); `none` where the spec leaves it
OPEN (`lcc pgm`). -/
def Form.length : Form → Option Nat
  | .condJump _ | .movi _ | .jmpi | .lccMem | .lodImm _ | .lcdImm | .lcdPgm | .pushi | .stoi _ => some 2
  | .lccImm | .calli => some 2
  | .stoiImm => some 3
  | .lccPgm => none
  | .clra | .jmz | .tst _ | .mov _ _ | .hlt | .undef | .nop | .peek _ | .ret | .pop _ | .clr _ | .lod _ _
  | .call | .push _ | .sto _ _ | .inc _ | .add _ | .sub _ | .rsb _ | .cmpRegRb _ | .cmpRbReg _ | .lccReg _
  | .lcdReg _ => some 1

/-- Whether the form's microsteps are one of the OPEN parameters (rules R153, R157, R183, R184). -/
def Form.isOpen : Form → Bool
  | .lccPgm | .lccImm | .calli | .stoiImm => true
  | .condJump _ | .clra | .movi _ | .jmpi | .jmz | .tst _ | .mov _ _ | .hlt | .undef | .nop | .peek _ | .lccMem
  | .lcdPgm | .ret | .pop _ | .lodImm _ | .lcdImm | .clr _ | .lod _ _ | .pushi | .call | .push _ | .stoi _
  | .sto _ _ | .inc _ | .add _ | .sub _ | .rsb _ | .cmpRegRb _ | .cmpRbReg _ | .lccReg _ | .lcdReg _ => false

/-! ### The opcode maps (rules R91 to R94) -/

/-- The MOV group map: destination code, source code (rule R91). -/
def decodeMov (d s : Reg) : Instr :=
  match d, s with
  | .pc, .pc => .hlt
  | .pc, .ra => .jmpRa
  | .pc, .rb => .jmpRb
  | .pc, .rc => .jmpRc
  | .pc, .rd => .jmpRd
  | .pc, .stp => .jmpStp
  | .pc, .stpi => .jmpStpi
  | .pc, .imm => .jmpi
  | .ra, .pc => .movRaPc
  | .ra, .ra => .nop
  | .ra, .rb => .movRaRb
  | .ra, .rc => .movRaRc
  | .ra, .rd => .movRaRd
  | .ra, .stp => .movRaStp
  | .ra, .stpi => .movRaStpi
  | .ra, .imm => .moviRa
  | .rb, .pc => .movRbPc
  | .rb, .ra => .movRbRa
  | .rb, .rb => .undefined12
  | .rb, .rc => .movRbRc
  | .rb, .rd => .movRbRd
  | .rb, .stp => .movRbStp
  | .rb, .stpi => .movRbStpi
  | .rb, .imm => .moviRb
  | .rc, .pc => .movRcPc
  | .rc, .ra => .movRcRa
  | .rc, .rb => .movRcRb
  | .rc, .rc => .undefined1B
  | .rc, .rd => .movRcRd
  | .rc, .stp => .movRcStp
  | .rc, .stpi => .movRcStpi
  | .rc, .imm => .moviRc
  | .rd, .pc => .movRdPc
  | .rd, .ra => .movRdRa
  | .rd, .rb => .movRdRb
  | .rd, .rc => .movRdRc
  | .rd, .rd => .undefined24
  | .rd, .stp => .movRdStp
  | .rd, .stpi => .movRdStpi
  | .rd, .imm => .moviRd
  | .stp, .pc => .movStpPc
  | .stp, .ra => .movStpRa
  | .stp, .rb => .movStpRb
  | .stp, .rc => .movStpRc
  | .stp, .rd => .movStpRd
  | .stp, .stp => .undefined2D
  | .stp, .stpi => .movStpStpi
  | .stp, .imm => .moviStp
  | .stpi, .pc => .jmz
  | .stpi, .ra => .tstRa
  | .stpi, .rb => .tstRb
  | .stpi, .rc => .tstRc
  | .stpi, .rd => .tstRd
  | .stpi, .stp => .tstStp
  | .stpi, .stpi => .undefined36
  | .stpi, .imm => .clra
  | .imm, .pc => .jc
  | .imm, .ra => .jz
  | .imm, .rb => .jo
  | .imm, .rc => .jnn
  | .imm, .rd => .jn
  | .imm, .stp => .jno
  | .imm, .stpi => .jnz
  | .imm, .imm => .jnc

/-- The LOD group map: destination code, source code (rule R92). -/
def decodeLod (d s : Reg) : Instr :=
  match d, s with
  | .pc, .pc => .lodPcAtPc
  | .pc, .ra => .lodPcAtRa
  | .pc, .rb => .lodPcAtRb
  | .pc, .rc => .lodPcPgmRc
  | .pc, .rd => .lodPcAtRd
  | .pc, .stp => .lodPcAtStp
  | .pc, .stpi => .ret
  | .pc, .imm => .lodPcAtImm
  | .ra, .pc => .lodRaAtPc
  | .ra, .ra => .lodRaAtRa
  | .ra, .rb => .lodRaAtRb
  | .ra, .rc => .lodRaPgmRc
  | .ra, .rd => .lodRaAtRd
  | .ra, .stp => .lodRaAtStp
  | .ra, .stpi => .popRa
  | .ra, .imm => .lodRaAtImm
  | .rb, .pc => .lodRbAtPc
  | .rb, .ra => .lodRbAtRa
  | .rb, .rb => .lodRbAtRb
  | .rb, .rc => .lodRbPgmRc
  | .rb, .rd => .lodRbAtRd
  | .rb, .stp => .lodRbAtStp
  | .rb, .stpi => .popRb
  | .rb, .imm => .lodRbAtImm
  | .rc, .pc => .lodRcAtPc
  | .rc, .ra => .lodRcAtRa
  | .rc, .rb => .lodRcAtRb
  | .rc, .rc => .lodRcPgmRc
  | .rc, .rd => .lodRcAtRd
  | .rc, .stp => .lodRcAtStp
  | .rc, .stpi => .popRc
  | .rc, .imm => .lodRcAtImm
  | .rd, .pc => .lodRdAtPc
  | .rd, .ra => .lodRdAtRa
  | .rd, .rb => .lodRdAtRb
  | .rd, .rc => .lodRdPgmRc
  | .rd, .rd => .lodRdAtRd
  | .rd, .stp => .lodRdAtStp
  | .rd, .stpi => .popRd
  | .rd, .imm => .lodRdAtImm
  | .stp, .pc => .lodStpAtPc
  | .stp, .ra => .lodStpAtRa
  | .stp, .rb => .lodStpAtRb
  | .stp, .rc => .lodStpPgmRc
  | .stp, .rd => .lodStpAtRd
  | .stp, .stp => .lodStpAtStp
  | .stp, .stpi => .popStp
  | .stp, .imm => .lodStpAtImm
  | .stpi, .pc => .peekPc
  | .stpi, .ra => .peekRa
  | .stpi, .rb => .peekRb
  | .stpi, .rc => .peekRc
  | .stpi, .rd => .peekRd
  | .stpi, .stp => .lccMem
  | .stpi, .stpi => .lccPgm
  | .stpi, .imm => .lcdPgm
  | .imm, .pc => .clrPc
  | .imm, .ra => .clrRa
  | .imm, .rb => .clrRb
  | .imm, .rc => .clrRc
  | .imm, .rd => .clrRd
  | .imm, .stp => .clrStp
  | .imm, .stpi => .lccImm
  | .imm, .imm => .lcdImm

/-- The STO group map: destination code, source code (rule R93). -/
def decodeSto (d s : Reg) : Instr :=
  match d, s with
  | .pc, .pc => .stoAtPcPc
  | .pc, .ra => .stoAtPcRa
  | .pc, .rb => .stoAtPcRb
  | .pc, .rc => .stoAtPcRc
  | .pc, .rd => .stoAtPcRd
  | .pc, .stp => .stoAtPcStp
  | .pc, .stpi => .retSto
  | .pc, .imm => .stoAtPcImm
  | .ra, .pc => .stoAtRaPc
  | .ra, .ra => .stoAtRaRa
  | .ra, .rb => .stoAtRaRb
  | .ra, .rc => .stoAtRaRc
  | .ra, .rd => .stoAtRaRd
  | .ra, .stp => .stoAtRaStp
  | .ra, .stpi => .popRaSto
  | .ra, .imm => .stoAtRaImm
  | .rb, .pc => .stoAtRbPc
  | .rb, .ra => .stoAtRbRa
  | .rb, .rb => .stoAtRbRb
  | .rb, .rc => .stoAtRbRc
  | .rb, .rd => .stoAtRbRd
  | .rb, .stp => .stoAtRbStp
  | .rb, .stpi => .popRbSto
  | .rb, .imm => .stoAtRbImm
  | .rc, .pc => .stoPgmRcPc
  | .rc, .ra => .stoPgmRcRa
  | .rc, .rb => .stoPgmRcRb
  | .rc, .rc => .stoPgmRcRc
  | .rc, .rd => .stoPgmRcRd
  | .rc, .stp => .stoPgmRcStp
  | .rc, .stpi => .popRcSto
  | .rc, .imm => .stoPgmRcImm
  | .rd, .pc => .stoAtRdPc
  | .rd, .ra => .stoAtRdRa
  | .rd, .rb => .stoAtRdRb
  | .rd, .rc => .stoAtRdRc
  | .rd, .rd => .stoAtRdRd
  | .rd, .stp => .stoAtRdStp
  | .rd, .stpi => .popRdSto
  | .rd, .imm => .stoAtRdImm
  | .stp, .pc => .stoAtStpPc
  | .stp, .ra => .stoAtStpRa
  | .stp, .rb => .stoAtStpRb
  | .stp, .rc => .stoAtStpRc
  | .stp, .rd => .stoAtStpRd
  | .stp, .stp => .stoAtStpStp
  | .stp, .stpi => .popStpSto
  | .stp, .imm => .stoAtStpImm
  | .stpi, .pc => .callRc
  | .stpi, .ra => .pushRa
  | .stpi, .rb => .pushRb
  | .stpi, .rc => .pushRc
  | .stpi, .rd => .pushRd
  | .stpi, .stp => .pushStp
  | .stpi, .stpi => .pushStpi
  | .stpi, .imm => .pushi
  | .imm, .pc => .calli
  | .imm, .ra => .stoiRa
  | .imm, .rb => .stoiRb
  | .imm, .rc => .stoiRc
  | .imm, .rd => .stoiRd
  | .imm, .stp => .stoiStp
  | .imm, .stpi => .stoiStpi
  | .imm, .imm => .stoiImmImm

/-- The ALU group map: mode, register code (rule R94). -/
def decodeAlu (m : AluMode) (r : Reg) : Instr :=
  match m, r with
  | .incA, .pc => .incPc
  | .incA, .ra => .incRa
  | .incA, .rb => .incRb
  | .incA, .rc => .incRc
  | .incA, .rd => .incRd
  | .incA, .stp => .incStp
  | .incA, .stpi => .incStpi
  | .incA, .imm => .incImm
  | .aPlusB, .pc => .addPc
  | .aPlusB, .ra => .addRa
  | .aPlusB, .rb => .addRb
  | .aPlusB, .rc => .addRc
  | .aPlusB, .rd => .addRd
  | .aPlusB, .stp => .addStp
  | .aPlusB, .stpi => .addStpi
  | .aPlusB, .imm => .addImm
  | .aMinusB, .pc => .subPc
  | .aMinusB, .ra => .subRa
  | .aMinusB, .rb => .subRb
  | .aMinusB, .rc => .subRc
  | .aMinusB, .rd => .subRd
  | .aMinusB, .stp => .subStp
  | .aMinusB, .stpi => .subStpi
  | .aMinusB, .imm => .subImm
  | .bMinusA, .pc => .rsbPc
  | .bMinusA, .ra => .rsbRa
  | .bMinusA, .rb => .rsbRb
  | .bMinusA, .rc => .rsbRc
  | .bMinusA, .rd => .rsbRd
  | .bMinusA, .stp => .rsbStp
  | .bMinusA, .stpi => .rsbStpi
  | .bMinusA, .imm => .rsbImm
  | .aAndB, .pc => .cmpPcRb
  | .aAndB, .ra => .cmpRaRb
  | .aAndB, .rb => .cmpRbRb
  | .aAndB, .rc => .cmpRcRb
  | .aAndB, .rd => .cmpRdRb
  | .aAndB, .stp => .cmpStpRb
  | .aAndB, .stpi => .cmpStpiRb
  | .aAndB, .imm => .cmpImmRb
  | .aOrB, .pc => .cmpRbPc
  | .aOrB, .ra => .cmpRbRa
  | .aOrB, .rb => .cmpRbRbRev
  | .aOrB, .rc => .cmpRbRc
  | .aOrB, .rd => .cmpRbRd
  | .aOrB, .stp => .cmpRbStp
  | .aOrB, .stpi => .cmpRbStpi
  | .aOrB, .imm => .cmpRbImm
  | .aXorB, .pc => .lccRegPc
  | .aXorB, .ra => .lccRegRa
  | .aXorB, .rb => .lccRegRb
  | .aXorB, .rc => .lccRegRc
  | .aXorB, .rd => .lccRegRd
  | .aXorB, .stp => .lccRegStp
  | .aXorB, .stpi => .lccRegStpi
  | .aXorB, .imm => .lccRegImm
  | .notA, .pc => .lcdRegPc
  | .notA, .ra => .lcdRegRa
  | .notA, .rb => .lcdRegRb
  | .notA, .rc => .lcdRegRc
  | .notA, .rd => .lcdRegRd
  | .notA, .stp => .lcdRegStp
  | .notA, .stpi => .lcdRegStpi
  | .notA, .imm => .lcdRegImm

/-- The instruction of an opcode byte; every byte has one (rules R78, R91 to R95). -/
def decodeOpcode (op : Byte) : Instr :=
  match opGroup op with
  | .mov => decodeMov (opDest op) (opSrc op)
  | .lod => decodeLod (opDest op) (opSrc op)
  | .sto => decodeSto (opDest op) (opSrc op)
  | .alu => decodeAlu (opMode op) (opSrc op)

/-- The command class of a byte on the LCD's command port, by its highest set bit, with its argument bits
(rule R97). -/
def decodeCommand (b : Byte) : Instr :=
  if b.getLsbD 7 then .lcdSetDramAddr (b &&& 0x7F#8)
  else if b.getLsbD 6 then .lcdSetCgramAddr (b &&& 0x3F#8)
  else if b.getLsbD 5 then .lcdFunctionSet (b &&& 0x1F#8)
  else if b.getLsbD 4 then .lcdShift (b &&& 0x0F#8)
  else if b.getLsbD 3 then .lcdDisplay (b &&& 0x07#8)
  else if b.getLsbD 2 then .lcdEntryMode (b &&& 0x03#8)
  else if b.getLsbD 1 then .lcdHome (b &&& 0x01#8)
  else if b.getLsbD 0 then .lcdClear
  else .lcdNoCommand

/-- Why no instruction was read. -/
inductive DecodeError where
  /-- There is no byte to read. No byte that is there is refused (rule R96). -/
  | noByte
  deriving DecidableEq, Repr

/-- Reads one instruction of a space from the front of some bytes; the rest is what follows its byte. The immediate of
an opcode is part of the rest: its microsteps read it (rule R76). -/
def decode (space : Space) (bytes : List Byte) : Except DecodeError (Instr × List Byte) :=
  match bytes, space with
  | [], _ => .error .noByte
  | b :: rest, .opcode => .ok (decodeOpcode b, rest)
  | b :: rest, .lcdCommand => .ok (decodeCommand b, rest)

/-! ### The encoder -/

/-- An opcode byte `[group:2][dest:3][src:3]` (rule R70). -/
def opcodeByte (g : Group) (d s : Reg) : Byte := g.code ++ d.code ++ s.code

/-- A conditional jump's opcode byte, the selector in the source field (rules R74, R130). -/
def jumpByte (c : Cond) : Byte := Group.mov.code ++ Reg.imm.code ++ c.code

/-- An ALU-group opcode byte `[group:2][useCarry:1][mode:2][reg:3]` (rules R71, R72). -/
def aluByte (m : AluMode) (r : Reg) : Byte := Group.alu.code ++ m.code ++ r.code

/-- A command byte: the class's bit with the argument bits under it (rule R97). -/
def commandByte (base argBits arg : Byte) : Byte := base ||| (arg &&& argBits)

/-- The byte of an instruction, from the maps R91 to R94 and the command table R97. -/
def encodeByte : Instr → Byte
  | .hlt => opcodeByte .mov .pc .pc
  | .jmpRa => opcodeByte .mov .pc .ra
  | .jmpRb => opcodeByte .mov .pc .rb
  | .jmpRc => opcodeByte .mov .pc .rc
  | .jmpRd => opcodeByte .mov .pc .rd
  | .jmpStp => opcodeByte .mov .pc .stp
  | .jmpStpi => opcodeByte .mov .pc .stpi
  | .jmpi => opcodeByte .mov .pc .imm
  | .movRaPc => opcodeByte .mov .ra .pc
  | .nop => opcodeByte .mov .ra .ra
  | .movRaRb => opcodeByte .mov .ra .rb
  | .movRaRc => opcodeByte .mov .ra .rc
  | .movRaRd => opcodeByte .mov .ra .rd
  | .movRaStp => opcodeByte .mov .ra .stp
  | .movRaStpi => opcodeByte .mov .ra .stpi
  | .moviRa => opcodeByte .mov .ra .imm
  | .movRbPc => opcodeByte .mov .rb .pc
  | .movRbRa => opcodeByte .mov .rb .ra
  | .undefined12 => opcodeByte .mov .rb .rb
  | .movRbRc => opcodeByte .mov .rb .rc
  | .movRbRd => opcodeByte .mov .rb .rd
  | .movRbStp => opcodeByte .mov .rb .stp
  | .movRbStpi => opcodeByte .mov .rb .stpi
  | .moviRb => opcodeByte .mov .rb .imm
  | .movRcPc => opcodeByte .mov .rc .pc
  | .movRcRa => opcodeByte .mov .rc .ra
  | .movRcRb => opcodeByte .mov .rc .rb
  | .undefined1B => opcodeByte .mov .rc .rc
  | .movRcRd => opcodeByte .mov .rc .rd
  | .movRcStp => opcodeByte .mov .rc .stp
  | .movRcStpi => opcodeByte .mov .rc .stpi
  | .moviRc => opcodeByte .mov .rc .imm
  | .movRdPc => opcodeByte .mov .rd .pc
  | .movRdRa => opcodeByte .mov .rd .ra
  | .movRdRb => opcodeByte .mov .rd .rb
  | .movRdRc => opcodeByte .mov .rd .rc
  | .undefined24 => opcodeByte .mov .rd .rd
  | .movRdStp => opcodeByte .mov .rd .stp
  | .movRdStpi => opcodeByte .mov .rd .stpi
  | .moviRd => opcodeByte .mov .rd .imm
  | .movStpPc => opcodeByte .mov .stp .pc
  | .movStpRa => opcodeByte .mov .stp .ra
  | .movStpRb => opcodeByte .mov .stp .rb
  | .movStpRc => opcodeByte .mov .stp .rc
  | .movStpRd => opcodeByte .mov .stp .rd
  | .undefined2D => opcodeByte .mov .stp .stp
  | .movStpStpi => opcodeByte .mov .stp .stpi
  | .moviStp => opcodeByte .mov .stp .imm
  | .jmz => opcodeByte .mov .stpi .pc
  | .tstRa => opcodeByte .mov .stpi .ra
  | .tstRb => opcodeByte .mov .stpi .rb
  | .tstRc => opcodeByte .mov .stpi .rc
  | .tstRd => opcodeByte .mov .stpi .rd
  | .tstStp => opcodeByte .mov .stpi .stp
  | .undefined36 => opcodeByte .mov .stpi .stpi
  | .clra => opcodeByte .mov .stpi .imm
  | .jc => jumpByte .carry
  | .jz => jumpByte .zero
  | .jo => jumpByte .oflow
  | .jnn => jumpByte .notNeg
  | .jn => jumpByte .neg
  | .jno => jumpByte .notOflow
  | .jnz => jumpByte .notZero
  | .jnc => jumpByte .notCarry
  | .lodPcAtPc => opcodeByte .lod .pc .pc
  | .lodPcAtRa => opcodeByte .lod .pc .ra
  | .lodPcAtRb => opcodeByte .lod .pc .rb
  | .lodPcPgmRc => opcodeByte .lod .pc .rc
  | .lodPcAtRd => opcodeByte .lod .pc .rd
  | .lodPcAtStp => opcodeByte .lod .pc .stp
  | .ret => opcodeByte .lod .pc .stpi
  | .lodPcAtImm => opcodeByte .lod .pc .imm
  | .lodRaAtPc => opcodeByte .lod .ra .pc
  | .lodRaAtRa => opcodeByte .lod .ra .ra
  | .lodRaAtRb => opcodeByte .lod .ra .rb
  | .lodRaPgmRc => opcodeByte .lod .ra .rc
  | .lodRaAtRd => opcodeByte .lod .ra .rd
  | .lodRaAtStp => opcodeByte .lod .ra .stp
  | .popRa => opcodeByte .lod .ra .stpi
  | .lodRaAtImm => opcodeByte .lod .ra .imm
  | .lodRbAtPc => opcodeByte .lod .rb .pc
  | .lodRbAtRa => opcodeByte .lod .rb .ra
  | .lodRbAtRb => opcodeByte .lod .rb .rb
  | .lodRbPgmRc => opcodeByte .lod .rb .rc
  | .lodRbAtRd => opcodeByte .lod .rb .rd
  | .lodRbAtStp => opcodeByte .lod .rb .stp
  | .popRb => opcodeByte .lod .rb .stpi
  | .lodRbAtImm => opcodeByte .lod .rb .imm
  | .lodRcAtPc => opcodeByte .lod .rc .pc
  | .lodRcAtRa => opcodeByte .lod .rc .ra
  | .lodRcAtRb => opcodeByte .lod .rc .rb
  | .lodRcPgmRc => opcodeByte .lod .rc .rc
  | .lodRcAtRd => opcodeByte .lod .rc .rd
  | .lodRcAtStp => opcodeByte .lod .rc .stp
  | .popRc => opcodeByte .lod .rc .stpi
  | .lodRcAtImm => opcodeByte .lod .rc .imm
  | .lodRdAtPc => opcodeByte .lod .rd .pc
  | .lodRdAtRa => opcodeByte .lod .rd .ra
  | .lodRdAtRb => opcodeByte .lod .rd .rb
  | .lodRdPgmRc => opcodeByte .lod .rd .rc
  | .lodRdAtRd => opcodeByte .lod .rd .rd
  | .lodRdAtStp => opcodeByte .lod .rd .stp
  | .popRd => opcodeByte .lod .rd .stpi
  | .lodRdAtImm => opcodeByte .lod .rd .imm
  | .lodStpAtPc => opcodeByte .lod .stp .pc
  | .lodStpAtRa => opcodeByte .lod .stp .ra
  | .lodStpAtRb => opcodeByte .lod .stp .rb
  | .lodStpPgmRc => opcodeByte .lod .stp .rc
  | .lodStpAtRd => opcodeByte .lod .stp .rd
  | .lodStpAtStp => opcodeByte .lod .stp .stp
  | .popStp => opcodeByte .lod .stp .stpi
  | .lodStpAtImm => opcodeByte .lod .stp .imm
  | .peekPc => opcodeByte .lod .stpi .pc
  | .peekRa => opcodeByte .lod .stpi .ra
  | .peekRb => opcodeByte .lod .stpi .rb
  | .peekRc => opcodeByte .lod .stpi .rc
  | .peekRd => opcodeByte .lod .stpi .rd
  | .lccMem => opcodeByte .lod .stpi .stp
  | .lccPgm => opcodeByte .lod .stpi .stpi
  | .lcdPgm => opcodeByte .lod .stpi .imm
  | .clrPc => opcodeByte .lod .imm .pc
  | .clrRa => opcodeByte .lod .imm .ra
  | .clrRb => opcodeByte .lod .imm .rb
  | .clrRc => opcodeByte .lod .imm .rc
  | .clrRd => opcodeByte .lod .imm .rd
  | .clrStp => opcodeByte .lod .imm .stp
  | .lccImm => opcodeByte .lod .imm .stpi
  | .lcdImm => opcodeByte .lod .imm .imm
  | .stoAtPcPc => opcodeByte .sto .pc .pc
  | .stoAtPcRa => opcodeByte .sto .pc .ra
  | .stoAtPcRb => opcodeByte .sto .pc .rb
  | .stoAtPcRc => opcodeByte .sto .pc .rc
  | .stoAtPcRd => opcodeByte .sto .pc .rd
  | .stoAtPcStp => opcodeByte .sto .pc .stp
  | .retSto => opcodeByte .sto .pc .stpi
  | .stoAtPcImm => opcodeByte .sto .pc .imm
  | .stoAtRaPc => opcodeByte .sto .ra .pc
  | .stoAtRaRa => opcodeByte .sto .ra .ra
  | .stoAtRaRb => opcodeByte .sto .ra .rb
  | .stoAtRaRc => opcodeByte .sto .ra .rc
  | .stoAtRaRd => opcodeByte .sto .ra .rd
  | .stoAtRaStp => opcodeByte .sto .ra .stp
  | .popRaSto => opcodeByte .sto .ra .stpi
  | .stoAtRaImm => opcodeByte .sto .ra .imm
  | .stoAtRbPc => opcodeByte .sto .rb .pc
  | .stoAtRbRa => opcodeByte .sto .rb .ra
  | .stoAtRbRb => opcodeByte .sto .rb .rb
  | .stoAtRbRc => opcodeByte .sto .rb .rc
  | .stoAtRbRd => opcodeByte .sto .rb .rd
  | .stoAtRbStp => opcodeByte .sto .rb .stp
  | .popRbSto => opcodeByte .sto .rb .stpi
  | .stoAtRbImm => opcodeByte .sto .rb .imm
  | .stoPgmRcPc => opcodeByte .sto .rc .pc
  | .stoPgmRcRa => opcodeByte .sto .rc .ra
  | .stoPgmRcRb => opcodeByte .sto .rc .rb
  | .stoPgmRcRc => opcodeByte .sto .rc .rc
  | .stoPgmRcRd => opcodeByte .sto .rc .rd
  | .stoPgmRcStp => opcodeByte .sto .rc .stp
  | .popRcSto => opcodeByte .sto .rc .stpi
  | .stoPgmRcImm => opcodeByte .sto .rc .imm
  | .stoAtRdPc => opcodeByte .sto .rd .pc
  | .stoAtRdRa => opcodeByte .sto .rd .ra
  | .stoAtRdRb => opcodeByte .sto .rd .rb
  | .stoAtRdRc => opcodeByte .sto .rd .rc
  | .stoAtRdRd => opcodeByte .sto .rd .rd
  | .stoAtRdStp => opcodeByte .sto .rd .stp
  | .popRdSto => opcodeByte .sto .rd .stpi
  | .stoAtRdImm => opcodeByte .sto .rd .imm
  | .stoAtStpPc => opcodeByte .sto .stp .pc
  | .stoAtStpRa => opcodeByte .sto .stp .ra
  | .stoAtStpRb => opcodeByte .sto .stp .rb
  | .stoAtStpRc => opcodeByte .sto .stp .rc
  | .stoAtStpRd => opcodeByte .sto .stp .rd
  | .stoAtStpStp => opcodeByte .sto .stp .stp
  | .popStpSto => opcodeByte .sto .stp .stpi
  | .stoAtStpImm => opcodeByte .sto .stp .imm
  | .callRc => opcodeByte .sto .stpi .pc
  | .pushRa => opcodeByte .sto .stpi .ra
  | .pushRb => opcodeByte .sto .stpi .rb
  | .pushRc => opcodeByte .sto .stpi .rc
  | .pushRd => opcodeByte .sto .stpi .rd
  | .pushStp => opcodeByte .sto .stpi .stp
  | .pushStpi => opcodeByte .sto .stpi .stpi
  | .pushi => opcodeByte .sto .stpi .imm
  | .calli => opcodeByte .sto .imm .pc
  | .stoiRa => opcodeByte .sto .imm .ra
  | .stoiRb => opcodeByte .sto .imm .rb
  | .stoiRc => opcodeByte .sto .imm .rc
  | .stoiRd => opcodeByte .sto .imm .rd
  | .stoiStp => opcodeByte .sto .imm .stp
  | .stoiStpi => opcodeByte .sto .imm .stpi
  | .stoiImmImm => opcodeByte .sto .imm .imm
  | .incPc => aluByte .incA .pc
  | .incRa => aluByte .incA .ra
  | .incRb => aluByte .incA .rb
  | .incRc => aluByte .incA .rc
  | .incRd => aluByte .incA .rd
  | .incStp => aluByte .incA .stp
  | .incStpi => aluByte .incA .stpi
  | .incImm => aluByte .incA .imm
  | .addPc => aluByte .aPlusB .pc
  | .addRa => aluByte .aPlusB .ra
  | .addRb => aluByte .aPlusB .rb
  | .addRc => aluByte .aPlusB .rc
  | .addRd => aluByte .aPlusB .rd
  | .addStp => aluByte .aPlusB .stp
  | .addStpi => aluByte .aPlusB .stpi
  | .addImm => aluByte .aPlusB .imm
  | .subPc => aluByte .aMinusB .pc
  | .subRa => aluByte .aMinusB .ra
  | .subRb => aluByte .aMinusB .rb
  | .subRc => aluByte .aMinusB .rc
  | .subRd => aluByte .aMinusB .rd
  | .subStp => aluByte .aMinusB .stp
  | .subStpi => aluByte .aMinusB .stpi
  | .subImm => aluByte .aMinusB .imm
  | .rsbPc => aluByte .bMinusA .pc
  | .rsbRa => aluByte .bMinusA .ra
  | .rsbRb => aluByte .bMinusA .rb
  | .rsbRc => aluByte .bMinusA .rc
  | .rsbRd => aluByte .bMinusA .rd
  | .rsbStp => aluByte .bMinusA .stp
  | .rsbStpi => aluByte .bMinusA .stpi
  | .rsbImm => aluByte .bMinusA .imm
  | .cmpPcRb => aluByte .aAndB .pc
  | .cmpRaRb => aluByte .aAndB .ra
  | .cmpRbRb => aluByte .aAndB .rb
  | .cmpRcRb => aluByte .aAndB .rc
  | .cmpRdRb => aluByte .aAndB .rd
  | .cmpStpRb => aluByte .aAndB .stp
  | .cmpStpiRb => aluByte .aAndB .stpi
  | .cmpImmRb => aluByte .aAndB .imm
  | .cmpRbPc => aluByte .aOrB .pc
  | .cmpRbRa => aluByte .aOrB .ra
  | .cmpRbRbRev => aluByte .aOrB .rb
  | .cmpRbRc => aluByte .aOrB .rc
  | .cmpRbRd => aluByte .aOrB .rd
  | .cmpRbStp => aluByte .aOrB .stp
  | .cmpRbStpi => aluByte .aOrB .stpi
  | .cmpRbImm => aluByte .aOrB .imm
  | .lccRegPc => aluByte .aXorB .pc
  | .lccRegRa => aluByte .aXorB .ra
  | .lccRegRb => aluByte .aXorB .rb
  | .lccRegRc => aluByte .aXorB .rc
  | .lccRegRd => aluByte .aXorB .rd
  | .lccRegStp => aluByte .aXorB .stp
  | .lccRegStpi => aluByte .aXorB .stpi
  | .lccRegImm => aluByte .aXorB .imm
  | .lcdRegPc => aluByte .notA .pc
  | .lcdRegRa => aluByte .notA .ra
  | .lcdRegRb => aluByte .notA .rb
  | .lcdRegRc => aluByte .notA .rc
  | .lcdRegRd => aluByte .notA .rd
  | .lcdRegStp => aluByte .notA .stp
  | .lcdRegStpi => aluByte .notA .stpi
  | .lcdRegImm => aluByte .notA .imm
  | .lcdSetDramAddr arg => commandByte 0x80#8 0x7F#8 arg
  | .lcdSetCgramAddr arg => commandByte 0x40#8 0x3F#8 arg
  | .lcdFunctionSet arg => commandByte 0x20#8 0x1F#8 arg
  | .lcdShift arg => commandByte 0x10#8 0x0F#8 arg
  | .lcdDisplay arg => commandByte 0x08#8 0x07#8 arg
  | .lcdEntryMode arg => commandByte 0x04#8 0x03#8 arg
  | .lcdHome arg => commandByte 0x02#8 0x01#8 arg
  | .lcdClear => 0x01#8
  | .lcdNoCommand => 0x00#8

/-- The bytes that encode an instruction: its one opcode or command byte (rules R76, R97). -/
def encode (i : Instr) : List Byte := [encodeByte i]

/-- The form of an instruction, row by row of the maps R91 to R94; a command class of the LCD has none. -/
def Instr.form : Instr → Option Form
  | .hlt => some (.hlt)
  | .jmpRa => some (.mov .pc .ra)
  | .jmpRb => some (.mov .pc .rb)
  | .jmpRc => some (.mov .pc .rc)
  | .jmpRd => some (.mov .pc .rd)
  | .jmpStp => some (.mov .pc .stp)
  | .jmpStpi => some (.mov .pc .stpi)
  | .jmpi => some (.jmpi)
  | .movRaPc => some (.mov .ra .pc)
  | .nop => some (.nop)
  | .movRaRb => some (.mov .ra .rb)
  | .movRaRc => some (.mov .ra .rc)
  | .movRaRd => some (.mov .ra .rd)
  | .movRaStp => some (.mov .ra .stp)
  | .movRaStpi => some (.mov .ra .stpi)
  | .moviRa => some (.movi .ra)
  | .movRbPc => some (.mov .rb .pc)
  | .movRbRa => some (.mov .rb .ra)
  | .undefined12 => some (.undef)
  | .movRbRc => some (.mov .rb .rc)
  | .movRbRd => some (.mov .rb .rd)
  | .movRbStp => some (.mov .rb .stp)
  | .movRbStpi => some (.mov .rb .stpi)
  | .moviRb => some (.movi .rb)
  | .movRcPc => some (.mov .rc .pc)
  | .movRcRa => some (.mov .rc .ra)
  | .movRcRb => some (.mov .rc .rb)
  | .undefined1B => some (.undef)
  | .movRcRd => some (.mov .rc .rd)
  | .movRcStp => some (.mov .rc .stp)
  | .movRcStpi => some (.mov .rc .stpi)
  | .moviRc => some (.movi .rc)
  | .movRdPc => some (.mov .rd .pc)
  | .movRdRa => some (.mov .rd .ra)
  | .movRdRb => some (.mov .rd .rb)
  | .movRdRc => some (.mov .rd .rc)
  | .undefined24 => some (.undef)
  | .movRdStp => some (.mov .rd .stp)
  | .movRdStpi => some (.mov .rd .stpi)
  | .moviRd => some (.movi .rd)
  | .movStpPc => some (.mov .stp .pc)
  | .movStpRa => some (.mov .stp .ra)
  | .movStpRb => some (.mov .stp .rb)
  | .movStpRc => some (.mov .stp .rc)
  | .movStpRd => some (.mov .stp .rd)
  | .undefined2D => some (.undef)
  | .movStpStpi => some (.mov .stp .stpi)
  | .moviStp => some (.movi .stp)
  | .jmz => some (.jmz)
  | .tstRa => some (.tst .ra)
  | .tstRb => some (.tst .rb)
  | .tstRc => some (.tst .rc)
  | .tstRd => some (.tst .rd)
  | .tstStp => some (.tst .stp)
  | .undefined36 => some (.undef)
  | .clra => some (.clra)
  | .jc => some (.condJump .carry)
  | .jz => some (.condJump .zero)
  | .jo => some (.condJump .oflow)
  | .jnn => some (.condJump .notNeg)
  | .jn => some (.condJump .neg)
  | .jno => some (.condJump .notOflow)
  | .jnz => some (.condJump .notZero)
  | .jnc => some (.condJump .notCarry)
  | .lodPcAtPc => some (.lod .pc .pc)
  | .lodPcAtRa => some (.lod .pc .ra)
  | .lodPcAtRb => some (.lod .pc .rb)
  | .lodPcPgmRc => some (.lod .pc .rc)
  | .lodPcAtRd => some (.lod .pc .rd)
  | .lodPcAtStp => some (.lod .pc .stp)
  | .ret => some (.ret)
  | .lodPcAtImm => some (.lodImm .pc)
  | .lodRaAtPc => some (.lod .ra .pc)
  | .lodRaAtRa => some (.lod .ra .ra)
  | .lodRaAtRb => some (.lod .ra .rb)
  | .lodRaPgmRc => some (.lod .ra .rc)
  | .lodRaAtRd => some (.lod .ra .rd)
  | .lodRaAtStp => some (.lod .ra .stp)
  | .popRa => some (.pop .ra)
  | .lodRaAtImm => some (.lodImm .ra)
  | .lodRbAtPc => some (.lod .rb .pc)
  | .lodRbAtRa => some (.lod .rb .ra)
  | .lodRbAtRb => some (.lod .rb .rb)
  | .lodRbPgmRc => some (.lod .rb .rc)
  | .lodRbAtRd => some (.lod .rb .rd)
  | .lodRbAtStp => some (.lod .rb .stp)
  | .popRb => some (.pop .rb)
  | .lodRbAtImm => some (.lodImm .rb)
  | .lodRcAtPc => some (.lod .rc .pc)
  | .lodRcAtRa => some (.lod .rc .ra)
  | .lodRcAtRb => some (.lod .rc .rb)
  | .lodRcPgmRc => some (.lod .rc .rc)
  | .lodRcAtRd => some (.lod .rc .rd)
  | .lodRcAtStp => some (.lod .rc .stp)
  | .popRc => some (.pop .rc)
  | .lodRcAtImm => some (.lodImm .rc)
  | .lodRdAtPc => some (.lod .rd .pc)
  | .lodRdAtRa => some (.lod .rd .ra)
  | .lodRdAtRb => some (.lod .rd .rb)
  | .lodRdPgmRc => some (.lod .rd .rc)
  | .lodRdAtRd => some (.lod .rd .rd)
  | .lodRdAtStp => some (.lod .rd .stp)
  | .popRd => some (.pop .rd)
  | .lodRdAtImm => some (.lodImm .rd)
  | .lodStpAtPc => some (.lod .stp .pc)
  | .lodStpAtRa => some (.lod .stp .ra)
  | .lodStpAtRb => some (.lod .stp .rb)
  | .lodStpPgmRc => some (.lod .stp .rc)
  | .lodStpAtRd => some (.lod .stp .rd)
  | .lodStpAtStp => some (.lod .stp .stp)
  | .popStp => some (.pop .stp)
  | .lodStpAtImm => some (.lodImm .stp)
  | .peekPc => some (.peek .pc)
  | .peekRa => some (.peek .ra)
  | .peekRb => some (.peek .rb)
  | .peekRc => some (.peek .rc)
  | .peekRd => some (.peek .rd)
  | .lccMem => some (.lccMem)
  | .lccPgm => some (.lccPgm)
  | .lcdPgm => some (.lcdPgm)
  | .clrPc => some (.clr .pc)
  | .clrRa => some (.clr .ra)
  | .clrRb => some (.clr .rb)
  | .clrRc => some (.clr .rc)
  | .clrRd => some (.clr .rd)
  | .clrStp => some (.clr .stp)
  | .lccImm => some (.lccImm)
  | .lcdImm => some (.lcdImm)
  | .stoAtPcPc => some (.sto .pc .pc)
  | .stoAtPcRa => some (.sto .pc .ra)
  | .stoAtPcRb => some (.sto .pc .rb)
  | .stoAtPcRc => some (.sto .pc .rc)
  | .stoAtPcRd => some (.sto .pc .rd)
  | .stoAtPcStp => some (.sto .pc .stp)
  | .retSto => some (.ret)
  | .stoAtPcImm => some (.sto .pc .imm)
  | .stoAtRaPc => some (.sto .ra .pc)
  | .stoAtRaRa => some (.sto .ra .ra)
  | .stoAtRaRb => some (.sto .ra .rb)
  | .stoAtRaRc => some (.sto .ra .rc)
  | .stoAtRaRd => some (.sto .ra .rd)
  | .stoAtRaStp => some (.sto .ra .stp)
  | .popRaSto => some (.pop .ra)
  | .stoAtRaImm => some (.sto .ra .imm)
  | .stoAtRbPc => some (.sto .rb .pc)
  | .stoAtRbRa => some (.sto .rb .ra)
  | .stoAtRbRb => some (.sto .rb .rb)
  | .stoAtRbRc => some (.sto .rb .rc)
  | .stoAtRbRd => some (.sto .rb .rd)
  | .stoAtRbStp => some (.sto .rb .stp)
  | .popRbSto => some (.pop .rb)
  | .stoAtRbImm => some (.sto .rb .imm)
  | .stoPgmRcPc => some (.sto .rc .pc)
  | .stoPgmRcRa => some (.sto .rc .ra)
  | .stoPgmRcRb => some (.sto .rc .rb)
  | .stoPgmRcRc => some (.sto .rc .rc)
  | .stoPgmRcRd => some (.sto .rc .rd)
  | .stoPgmRcStp => some (.sto .rc .stp)
  | .popRcSto => some (.pop .rc)
  | .stoPgmRcImm => some (.sto .rc .imm)
  | .stoAtRdPc => some (.sto .rd .pc)
  | .stoAtRdRa => some (.sto .rd .ra)
  | .stoAtRdRb => some (.sto .rd .rb)
  | .stoAtRdRc => some (.sto .rd .rc)
  | .stoAtRdRd => some (.sto .rd .rd)
  | .stoAtRdStp => some (.sto .rd .stp)
  | .popRdSto => some (.pop .rd)
  | .stoAtRdImm => some (.sto .rd .imm)
  | .stoAtStpPc => some (.sto .stp .pc)
  | .stoAtStpRa => some (.sto .stp .ra)
  | .stoAtStpRb => some (.sto .stp .rb)
  | .stoAtStpRc => some (.sto .stp .rc)
  | .stoAtStpRd => some (.sto .stp .rd)
  | .stoAtStpStp => some (.sto .stp .stp)
  | .popStpSto => some (.pop .stp)
  | .stoAtStpImm => some (.sto .stp .imm)
  | .callRc => some (.call)
  | .pushRa => some (.push .ra)
  | .pushRb => some (.push .rb)
  | .pushRc => some (.push .rc)
  | .pushRd => some (.push .rd)
  | .pushStp => some (.push .stp)
  | .pushStpi => some (.push .stpi)
  | .pushi => some (.pushi)
  | .calli => some (.calli)
  | .stoiRa => some (.stoi .ra)
  | .stoiRb => some (.stoi .rb)
  | .stoiRc => some (.stoi .rc)
  | .stoiRd => some (.stoi .rd)
  | .stoiStp => some (.stoi .stp)
  | .stoiStpi => some (.stoi .stpi)
  | .stoiImmImm => some (.stoiImm)
  | .incPc => some (.inc .pc)
  | .incRa => some (.inc .ra)
  | .incRb => some (.inc .rb)
  | .incRc => some (.inc .rc)
  | .incRd => some (.inc .rd)
  | .incStp => some (.inc .stp)
  | .incStpi => some (.inc .stpi)
  | .incImm => some (.inc .imm)
  | .addPc => some (.add .pc)
  | .addRa => some (.add .ra)
  | .addRb => some (.add .rb)
  | .addRc => some (.add .rc)
  | .addRd => some (.add .rd)
  | .addStp => some (.add .stp)
  | .addStpi => some (.add .stpi)
  | .addImm => some (.add .imm)
  | .subPc => some (.sub .pc)
  | .subRa => some (.sub .ra)
  | .subRb => some (.sub .rb)
  | .subRc => some (.sub .rc)
  | .subRd => some (.sub .rd)
  | .subStp => some (.sub .stp)
  | .subStpi => some (.sub .stpi)
  | .subImm => some (.sub .imm)
  | .rsbPc => some (.rsb .pc)
  | .rsbRa => some (.rsb .ra)
  | .rsbRb => some (.rsb .rb)
  | .rsbRc => some (.rsb .rc)
  | .rsbRd => some (.rsb .rd)
  | .rsbStp => some (.rsb .stp)
  | .rsbStpi => some (.rsb .stpi)
  | .rsbImm => some (.rsb .imm)
  | .cmpPcRb => some (.cmpRegRb .pc)
  | .cmpRaRb => some (.cmpRegRb .ra)
  | .cmpRbRb => some (.cmpRegRb .rb)
  | .cmpRcRb => some (.cmpRegRb .rc)
  | .cmpRdRb => some (.cmpRegRb .rd)
  | .cmpStpRb => some (.cmpRegRb .stp)
  | .cmpStpiRb => some (.cmpRegRb .stpi)
  | .cmpImmRb => some (.cmpRegRb .imm)
  | .cmpRbPc => some (.cmpRbReg .pc)
  | .cmpRbRa => some (.cmpRbReg .ra)
  | .cmpRbRbRev => some (.cmpRbReg .rb)
  | .cmpRbRc => some (.cmpRbReg .rc)
  | .cmpRbRd => some (.cmpRbReg .rd)
  | .cmpRbStp => some (.cmpRbReg .stp)
  | .cmpRbStpi => some (.cmpRbReg .stpi)
  | .cmpRbImm => some (.cmpRbReg .imm)
  | .lccRegPc => some (.lccReg .pc)
  | .lccRegRa => some (.lccReg .ra)
  | .lccRegRb => some (.lccReg .rb)
  | .lccRegRc => some (.lccReg .rc)
  | .lccRegRd => some (.lccReg .rd)
  | .lccRegStp => some (.lccReg .stp)
  | .lccRegStpi => some (.lccReg .stpi)
  | .lccRegImm => some (.lccReg .imm)
  | .lcdRegPc => some (.lcdReg .pc)
  | .lcdRegRa => some (.lcdReg .ra)
  | .lcdRegRb => some (.lcdReg .rb)
  | .lcdRegRc => some (.lcdReg .rc)
  | .lcdRegRd => some (.lcdReg .rd)
  | .lcdRegStp => some (.lcdReg .stp)
  | .lcdRegStpi => some (.lcdReg .stpi)
  | .lcdRegImm => some (.lcdReg .imm)
  | .lcdSetDramAddr _ | .lcdSetCgramAddr _ | .lcdFunctionSet _ | .lcdShift _ | .lcdDisplay _ | .lcdEntryMode _ | .lcdHome _ | .lcdClear | .lcdNoCommand => none

/-- The space an instruction is encoded in (rules R70, R97). -/
def Instr.space (i : Instr) : Space :=
  match i.form with
  | some _ => .opcode
  | none => .lcdCommand

/-! ### The table's words -/

/-- The bytes of an instruction whose bits are `w` (bit 0 the least significant bit of the first byte), `nbits` of
them, laid out lowest address first and followed by zero operand bytes up to the longest instruction, three bytes
(rule R77). -/
def tableBytes (nbits w : Nat) : List Byte :=
  let v := w % 2 ^ nbits
  [BitVec.ofNat 8 v, BitVec.ofNat 8 (v / 256), BitVec.ofNat 8 (v / 65536)]

/-- The instruction the decoder reads from an instruction word of spec/opcode_table.json, taken as an opcode in program
memory. The table's nine LCD rows are bytes of another space (log 13). -/
def decodeTableWord (nbits w : Nat) : Option Instr :=
  match decode .opcode (tableBytes nbits w) with
  | .ok (i, _) => some i
  | .error _ => none

end Sys2Proof
end

