-- ==== Sys2Proof/Machine/Memory.lean ====
section
/-! DEFINITION. Reading and writing one byte of a memory, and the canonical form a memory is held in. Program memory,
data memory and the LCD's DDRAM are memories of this kind (rules R58, R266). -/

namespace Sys2Proof.Machine

/-- What an address that no entry lists reads as (rules R223, R266; log 4). -/
def Memory.unlisted : Byte := 0#8

/-- The byte at an address. -/
def Memory.read (m : Memory) (a : Nat) : Byte :=
  match m with
  | [] => Memory.unlisted
  | cell :: rest => if cell.1 = a then cell.2 else Memory.read rest a

/-- The memory without its entry for an address. -/
def Memory.erase (m : Memory) (a : Nat) : Memory := m.filter fun cell => cell.1 != a

/-- A new entry, put before the first entry with a higher address. -/
def Memory.place (cell : Host.Cell) : Memory → Memory
  | [] => [cell]
  | first :: rest => if cell.1 < first.1 then cell :: first :: rest else first :: Memory.place cell rest

/-- Stores a byte. The value an unlisted address reads as is not listed, so equal memories are equal lists. -/
def Memory.write (m : Memory) (a : Nat) (v : Byte) : Memory :=
  if v = Memory.unlisted then m.erase a else Memory.place (a, v) (m.erase a)

/-- Stores bytes at rising addresses from `a` on, wrapping at 256: how a program is loaded (rule R266). -/
def Memory.load (m : Memory) (a : Byte) : List Byte → Memory
  | [] => m
  | v :: rest => Memory.load (m.write a.toNat v) (a + 1#8) rest

/-- The addresses rise strictly. -/
def Memory.sorted : Memory → Bool
  | [] => true
  | cell :: rest => rest.all (fun later => decide (cell.1 < later.1)) && Memory.sorted rest

/-- The canonical form of a memory of `size` bytes: strictly rising addresses below `size`, and no entry equal to what an
unlisted address reads as. -/
def Memory.wf (size : Nat) (m : Memory) : Bool :=
  Memory.sorted m && m.all fun cell => decide (cell.1 < size) && cell.2 != Memory.unlisted

end Sys2Proof.Machine
end

