-- ==== Sys2Proof/Machine/Lcd.lean ====
section
/-! DEFINITION. The LCD device (`45_lcd.md`): its sizes, the cursor state machine, the command decoder, data writes,
read-back and the pixel rasterizer; and the meanings of the nine command classes of spec/opcode_table.json. -/

namespace Sys2Proof.Machine

/-! ### Sizes (rules R31, R224) -/

/-- `LINE_WIDTH`, the DDRAM stride of a line (conflict C9). -/
def Lcd.lineWidth (l : Lcd) : Nat := l.width + 1

/-- `SIZE`, the number of DDRAM bytes. -/
def Lcd.size (l : Lcd) : Nat := l.lineWidth * l.height

/-- `pixelsWidth`. -/
def Lcd.pixelsWidth (l : Lcd) : Nat := l.width * 6 - 1

/-- `pixelsHeight`. -/
def Lcd.pixelsHeight (l : Lcd) : Nat := l.height * 9 - 1

/-- Whether an offset is the gap byte at the end of a line (rule R58). -/
def Lcd.isGap (l : Lcd) (o : Nat) : Bool := (o + 1) % l.lineWidth == 0

/-- `new(width, height)`; outside the bounds there is no device (rule R224, decision D31). -/
def Lcd.new? (width height : Nat) : Option Lcd :=
  if geometryOk width height then some (Lcd.make width height) else none

/-! ### Data writes and the cursor (rules R232 to R234) -/

/-- `advance(c)` (rule R233). -/
def Lcd.advance (l : Lcd) (c : Nat) : Nat :=
  let n := c + 1
  let n := if (n + 1) % l.lineWidth = 0 then n + 1 else n
  if l.size ≤ n then 0 else n

/-- INCREMENT is bit 1 of the entry-mode byte (rule R98, decision D25). -/
def Lcd.increment (l : Lcd) : Bool := l.entryMode.getLsbD 1

/-- `write_byte(b)` (rule R232). -/
def Lcd.writeByte (l : Lcd) (b : Byte) : Lcd :=
  { l with
    ddram := l.ddram.write l.cursor b
    cursor := if l.increment then l.advance l.cursor else l.cursor }

/-- `write_string(s)`: the bytes before the first NUL, in order (rule R234). -/
def Lcd.writeString (l : Lcd) (bytes : List Byte) : Lcd :=
  (bytes.takeWhile (· != 0#8)).foldl Lcd.writeByte l

/-! ### Commands (rules R222, R225 to R231) -/

/-- SET_DRAM_ADDR: the offset in the low seven bits, clamped to DDRAM (rule R225). -/
def Lcd.setDramAddr (l : Lcd) (b : Byte) : Lcd :=
  { l with cursor := min (b &&& 0x7F#8).toNat (l.size - 1) }

/-- The commands that are accepted and change no state: SET_CGRAM_ADDR, SHIFT, the bytes with highest bit 5, and 0x00
(rules R226, R227). -/
def Lcd.noAction (l : Lcd) : Lcd := l

/-- DISPLAY: the whole byte is stored (rule R228). -/
def Lcd.display (l : Lcd) (b : Byte) : Lcd := { l with displayFlags := b }

/-- ENTRY_MODE: the whole byte is stored (rule R229). -/
def Lcd.setEntryMode (l : Lcd) (b : Byte) : Lcd := { l with entryMode := b }

/-- HOME (rule R230). -/
def Lcd.home (l : Lcd) : Lcd := { l with cursor := 0 }

/-- CLEAR: the cursor goes home and every DDRAM byte is zeroed (rule R231). -/
def Lcd.clear (l : Lcd) : Lcd :=
  { l with cursor := 0, ddram := l.ddram.filter fun cell => decide (l.size ≤ cell.1) }

/-- `send_command(b)`: the highest set bit selects (rule R222). -/
def Lcd.sendCommand (l : Lcd) (b : Byte) : Lcd :=
  if 0x80 ≤ b.toNat then l.setDramAddr b
  else if 0x40 ≤ b.toNat then l.noAction
  else if 0x20 ≤ b.toNat then l.noAction
  else if 0x10 ≤ b.toNat then l.noAction
  else if 0x08 ≤ b.toNat then l.display b
  else if 0x04 ≤ b.toNat then l.setEntryMode b
  else if 0x02 ≤ b.toNat then l.home
  else if b.toNat = 0x01 then l.clear
  else l.noAction

/-! ### Read-back (rules R235 to R237) -/

/-- `read_byte()` (rule R235). -/
def Lcd.readByte (l : Lcd) : Byte := l.ddram.read l.cursor

/-- `read_line(row)`: from the line's start up to the first 0 byte or the end of DDRAM; no byte for a row that is not
there (rule R236). -/
def Lcd.readLine (l : Lcd) (row : Nat) : List Byte :=
  if row < l.height then
    ((List.range' (row * l.lineWidth) (l.size - row * l.lineWidth)).map l.ddram.read).takeWhile (· != 0#8)
  else []

/-- `num_pixels()` (rule R237). -/
def Lcd.numPixels (l : Lcd) : Nat × Nat := (l.pixelsWidth, l.pixelsHeight)

/-! ### Pixels (rules R240 to R243) -/

/-- Column `i` of the glyph that a DDRAM byte shows (rules R99, R241). -/
def glyphColumn (ch : Byte) (i : Nat) : Byte :=
  if ch.toNat < 128 then Config.font ch.toNat i else Config.fontHigh ch.toNat i

/-- Pixel row `j` of a glyph column, the most significant bit at the top (rule R240). -/
def columnPixel (column : Byte) (j : Nat) : Pixel :=
  if column.getLsbD (7 - j) then .on else .off

/-- The buffer's entry at `(x, y)`; outside the buffer there is none. -/
def pixelAt (pix : List (List Pixel)) (x y : Nat) : Option Pixel := (pix[x]?).bind fun column => column[y]?

/-- Writes the buffer's entry at `(x, y)`. -/
def setPixel (pix : List (List Pixel)) (x y : Nat) (v : Pixel) : List (List Pixel) :=
  pix.modify x fun column => column.set y v

/-- The loop of rule R240, in its order: line, character column, glyph column, pixel row. -/
def Lcd.cells (l : Lcd) : List (Nat × Nat × Nat × Nat) :=
  (List.range l.height).flatMap fun row =>
    (List.range l.width).flatMap fun col =>
      (List.range 5).flatMap fun i =>
        (List.range 8).map fun j => (row, col, i, j)

/-- One turn of the loop of rule R240. -/
def Lcd.drawPixel (l : Lcd) (pix : List (List Pixel)) (cell : Nat × Nat × Nat × Nat) : List (List Pixel) :=
  let (row, col, i, j) := cell
  let ch := l.ddram.read (row * (l.width + 1) + col)
  setPixel pix (col * 6 + i) (row * 9 + j) (columnPixel (glyphColumn ch i) j)

/-- `update_pixels()` (rule R240): only `pix` changes. -/
def Lcd.updatePixels (l : Lcd) : Lcd := { l with pix := l.cells.foldl l.drawPixel l.pix }

/-- The number a pixel stands for. -/
def Pixel.value : Pixel → Int
  | .unset => -1
  | .off => 0
  | .on => 1

/-- `pixel_state(x, y)`: the buffer's entry, and -1 out of range (rule R242). -/
def Lcd.pixelState (l : Lcd) (x y : Int) : Int :=
  if 0 ≤ x ∧ x < l.pixelsWidth ∧ 0 ≤ y ∧ y < l.pixelsHeight then
    ((pixelAt l.pix x.toNat y.toNat).map Pixel.value).getD (-1)
  else -1

/-- Whether a pixel of the buffer belongs to a glyph cell (rule R243). -/
def inGlyph (x y : Nat) : Bool := decide (x % 6 < 5) && decide (y % 9 < 8)

/-! ### The device's invariant (rules R32, R224, R240) -/

/-- The device as construction and every operation leave it: sizes in bounds, the cursor inside DDRAM, DDRAM in canonical
form, the pixel buffer of its size with its gaps never drawn. -/
def Lcd.inv (l : Lcd) : Bool :=
  geometryOk l.width l.height && decide (l.cursor < l.size) && Memory.wf l.size l.ddram
    && l.pix.length == l.pixelsWidth && l.pix.all (fun column => column.length == l.pixelsHeight)
    && (List.range l.pixelsWidth).all fun x => (List.range l.pixelsHeight).all fun y =>
        inGlyph x y || pixelAt l.pix x y == some .unset

/-! ### The command classes as instructions of the LCD's port -/

/-- The machine with another LCD state. -/
def State.setLcd (s : State) (l : Lcd) : State := { s with lcd := l }

/-- SET_DRAM_ADDR (rule R225). -/
def execLcdSetDramAddr (arg : Byte) (s : State) : Result :=
  .next (s.setLcd (s.lcd.setDramAddr (commandByte 0x80#8 0x7F#8 arg)))

/-- SET_CGRAM_ADDR: no action (rule R226). -/
def execLcdSetCgramAddr (_arg : Byte) (s : State) : Result := .next (s.setLcd s.lcd.noAction)

/-- The bytes with highest bit 5: no action (rule R227). -/
def execLcdFunctionSet (_arg : Byte) (s : State) : Result := .next (s.setLcd s.lcd.noAction)

/-- SHIFT: no action (rule R226). -/
def execLcdShift (_arg : Byte) (s : State) : Result := .next (s.setLcd s.lcd.noAction)

/-- DISPLAY (rule R228). -/
def execLcdDisplay (arg : Byte) (s : State) : Result :=
  .next (s.setLcd (s.lcd.display (commandByte 0x08#8 0x07#8 arg)))

/-- ENTRY_MODE (rule R229). -/
def execLcdEntryMode (arg : Byte) (s : State) : Result :=
  .next (s.setLcd (s.lcd.setEntryMode (commandByte 0x04#8 0x03#8 arg)))

/-- HOME (rule R230). -/
def execLcdHome (_arg : Byte) (s : State) : Result := .next (s.setLcd s.lcd.home)

/-- CLEAR (rule R231). -/
def execLcdClear (s : State) : Result := .next (s.setLcd s.lcd.clear)

/-- The byte 0x00: no action (rule R227). -/
def execLcdNoCommand (s : State) : Result := .next (s.setLcd s.lcd.noAction)

end Sys2Proof.Machine
end

