-- ==== Sys2Proof/Machine/Ops.lean ====
section
/-! DEFINITION. The shared operations of the datapath (`46_datapath_harness.md`): registers and memories, the bus, the
commit of one microstep with its faults, the microtime counter, the run of a sequence of microsteps, the supplied OPEN
parameters, halt, resume, reset and launch. There is no operation that takes an
exception and none that returns from one: the block raises none, has no trap entry and no trap return (rules R300, R301,
R303). -/

namespace Sys2Proof.Machine

/-! ### Registers and memories -/

/-- The register of a code; the pseudo codes 6 and 7 name none (rules R23, R269). -/
def State.reg (s : State) : Reg → Option Byte
  | .pc => some s.pc
  | .ra => some s.ra
  | .rb => some s.rb
  | .rc => some s.rc
  | .rd => some s.rd
  | .stp => some s.stp
  | .stpi | .imm => none

/-- Writes the register of a code; the pseudo codes name none. -/
def State.setReg (s : State) (r : Reg) (v : Byte) : State :=
  match r with
  | .pc => { s with pc := v }
  | .ra => { s with ra := v }
  | .rb => { s with rb := v }
  | .rc => { s with rc := v }
  | .rd => { s with rd := v }
  | .stp => { s with stp := v }
  | .stpi | .imm => s

/-- The memory an access goes to: program memory under `PGM`, else data memory (rules R57, R266). -/
def State.memory (s : State) (pgm : Bool) : Memory := if pgm then s.pmem else s.dmem

/-- The byte at an address of program or data memory. -/
def State.load (s : State) (pgm : Bool) (a : Byte) : Byte := (s.memory pgm).read a.toNat

/-- Stores a byte in program or data memory. -/
def State.store (s : State) (pgm : Bool) (a v : Byte) : State :=
  if pgm then { s with pmem := s.pmem.write a.toNat v } else { s with dmem := s.dmem.write a.toNat v }

/-- The machine with another memory-address register. -/
def State.setMar (s : State) (v : Byte) : State := { s with mar := v }

/-- Latches an ALU result: Acc and the four flags (rules R264, R265). -/
def State.latch (s : State) (out : AluOut) : State := { s with acc := out.res, flags := out.flags }

/-- The instruction ends: the counter is 0 (rule R117, `_TR`). -/
def State.endInstr (s : State) : State := { s with mt := 0#3 }

/-! ### What a signal set asks for -/

/-- A pseudo register on the bus's driving side (rule R269 (a)). -/
def Signal.isPseudoDriver : Signal → Bool
  | .w .stpi | .w .imm => true
  | _ => false

/-- A pseudo register on the bus's latching side (rule R269 (a)). -/
def Signal.isPseudoSink : Signal → Bool
  | .r .stpi | .r .imm => true
  | _ => false

/-- A bus sink, as rule R269 (b) lists them. -/
def Signal.isSink : Signal → Bool
  | .r _ | .stpw | .maw | .irw | .mw | .alw | .lcd => true
  | _ => false

/-- One of the four modes the harness defines (rule R263). -/
def Signal.isHarnessMode : Signal → Bool
  | .alu .aPlusB | .alu .aMinusB | .alu .bMinusA | .alu .aAndB => true
  | _ => false

/-- The ALU mode of a set (rule R30: at most one). -/
def aluModeOf (S : SigSet) : Option AluMode :=
  S.findSome? fun g => match g with
    | .alu m => some m
    | _ => none

/-- The harness fault of a set, if it has one (rule R269 (a) to (e); two drivers: log 16). It does not depend on the
state. -/
def faultOf (S : SigSet) : Option Fault :=
  if S.any Signal.isPseudoDriver then some .pseudoDriver
  else if S.any Signal.isPseudoSink then some .pseudoSink
  else if !SigSet.oneDriver S then some .busContention
  else if S.any Signal.isSink && !S.any Sys2Proof.Signal.isDriver then some .noDriver
  else if S.contains .alw && !(S.any Signal.isHarnessMode && SigSet.oneMode S) then some .aluMode
  else if S.contains .pcc && S.contains (.r .pc) then some .pccWithLoad
  else if S.contains .lcd && (S.contains .lcdData == S.contains .lcdCommand) then some .lcdMode
  else none

/-! ### One microstep (rules R262 to R265) -/

/-- The bus: what the set's driver puts on it, from the state at the start of the microstep; nothing without a driver
(rule R262). -/
def busValue (S : SigSet) (s : State) : Option Byte :=
  match S.find? Sys2Proof.Signal.isDriver with
  | some (.w r) => s.reg r
  | some .bwMem => some (s.load (S.contains .pgm) s.mar)
  | some .bwAlu => some s.acc
  | _ => none

/-- The ALU's output under `_ALW`: A is the bus, B is Rb under `ALB` and else 0, the carry-in is `ALC` (rule R263). -/
def aluValue (S : SigSet) (s : State) : Option AluOut :=
  if S.contains .alw then
    (busValue S s).bind fun a => (aluModeOf S).bind fun m =>
      aluOut m a (if S.contains .alb then s.rb else 0#8) (S.contains .alc)
  else none

/-- The counter's next value (rule R117, decision D7). -/
def nextMt (mt : BitVec 3) (S : SigSet) : BitVec 3 :=
  if S.contains .tr then 0#3 else if S.contains .hlt then mt else mt + 1#3

/-- A latch: takes the bus when asked to. -/
def latchBus (ask : Bool) (bus : Option Byte) (old : Byte) : Byte := if ask then bus.getD old else old

/-- A memory at the end of a microstep: written at MAR when asked to (rule R265). -/
def storeBus (ask : Bool) (bus : Option Byte) (mar : Byte) (m : Memory) : Memory :=
  if ask then
    match bus with
    | some v => m.write mar.toNat v
    | none => m
  else m

/-- The LCD at the end of a microstep: under `LCD`, a data write or a command (rule R221, decision D24). -/
def strobeLcd (S : SigSet) (bus : Option Byte) (l : Lcd) : Lcd :=
  if S.contains .lcd then
    match bus with
    | some v =>
      if S.contains .lcdData then l.writeByte v
      else if S.contains .lcdCommand then l.sendCommand v
      else l
    | none => l
  else l

/-- What a microstep with no fault does: every read uses the state `s` at its start, and all writes happen together at
its end (rules R265, R331). `HLT` sets `halted` (rule R268). -/
def applySet (S : SigSet) (s : State) : State :=
  let bus := busValue S s
  let out := aluValue S s
  { s with
    pc := if S.contains .pcc then s.pc + 1#8 else latchBus (S.contains (.r .pc)) bus s.pc
    ra := latchBus (S.contains (.r .ra)) bus s.ra
    rb := latchBus (S.contains (.r .rb)) bus s.rb
    rc := latchBus (S.contains (.r .rc)) bus s.rc
    rd := latchBus (S.contains (.r .rd)) bus s.rd
    stp := latchBus (S.contains (.r .stp) || S.contains .stpw) bus s.stp
    acc := (out.map AluOut.res).getD s.acc
    mar := latchBus (S.contains .maw) bus s.mar
    ir := latchBus (S.contains .irw) bus s.ir
    flags := (out.map AluOut.flags).getD s.flags
    mt := nextMt s.mt S
    halted := S.contains .hlt || s.halted
    pmem := storeBus (S.contains .mw && S.contains .pgm) bus s.mar s.pmem
    dmem := storeBus (S.contains .mw && !S.contains .pgm) bus s.mar s.dmem
    lcd := strobeLcd S bus s.lcd }

/-- One microstep with the signal set `S`: a harness fault, or the state after it. -/
def commit (S : SigSet) (s : State) : Result :=
  match faultOf S with
  | some f => .fault f
  | none => .next (applySet S s)

/-! ### Sequences of microsteps -/

/-- Goes on from a next state; a fault or a refusal stands. -/
def andThen (r : Result) (f : State → Result) : Result :=
  match r with
  | .next s => f s
  | .fault e => .fault e
  | .refused e => .refused e

/-- Fetch step 0: PC to MAR (rule R111). -/
def fetch0 : SigSet := [.w .pc, .maw]

/-- Fetch step 1: the program byte to IR, PC on (rule R112). -/
def fetch1 : SigSet := [.pgm, .bwMem, .irw, .pcc]

/-- What the ROM holds past an instruction's last step (rule R114, decision D6). -/
def filler : SigSet := [.tr]

/-- Whether a set ends its instruction, or holds the counter for good (rules R115 (b), R117). -/
def endsRun (S : SigSet) : Bool := S.contains .tr || S.contains .hlt

/-- Runs a sequence from its `k`-th microstep until one ends it, at most `fuel` of them. The sequence is looked up with
the flags present at each microstep (rules R21, R110, R113, R130). -/
def runFrom (q : Flags → List SigSet) : Nat → Nat → State → Result
  | 0, _, s => .next s
  | fuel + 1, k, s =>
    let S := ((q s.flags)[k]?).getD filler
    andThen (commit S s) fun t => if endsRun S then .next t else runFrom q fuel (k + 1) t

/-- Runs an instruction's sequence from its first microstep, the one at microtime 2; six at most (rule R115 (a)). -/
def runSeq (q : Flags → List SigSet) (s : State) : Result := runFrom q 6 0 s

/-- Runs a sequence that does not depend on the flags (rule R116). -/
def runFixed (q : List SigSet) (s : State) : Result := runSeq (fun _ => q) s

/-! ### The supplied OPEN parameters -/

/-- A supplied parameter, if it has the shape its rule asks for; another list is no value of the parameter and counts as
not supplied (log 5). -/
def admitted (shape : List SigSet → Bool) (q : Option (List SigSet)) : Option (List SigSet) := q.filter shape

/-- The sequence that the host supplied for an OPEN form; none for a form whose sequence the spec gives. -/
def State.openSeq (s : State) : Form → Option (List SigSet)
  | .lccImm => admitted lccImmShape s.openSeqs.lccImm
  | .lccPgm => admitted lccPgmShape s.openSeqs.lccPgm
  | .calli => admitted calliShape s.openSeqs.calli
  | .stoiImm => admitted stoiShape s.openSeqs.stoi
  | .condJump _ | .clra | .movi _ | .jmpi | .jmz | .tst _ | .mov _ _ | .hlt | .undef | .nop | .peek _ | .lccMem
  | .lcdPgm | .ret | .pop _ | .lodImm _ | .lcdImm | .clr _ | .lod _ _ | .pushi | .call | .push _ | .stoi _ | .sto _ _
  | .inc _ | .add _ | .sub _ | .rsb _ | .cmpRegRb _ | .cmpRbReg _ | .lccReg _ | .lcdReg _ => none

/-- Whether the ROM lacks the words of a form: an OPEN one whose parameter is not supplied (rule R269 (f)). -/
def State.lacks (s : State) (f : Form) : Bool := f.isOpen && (s.openSeq f).isNone

/-- The OPEN part of this machine's ROM: the supplied sequences. One that is not supplied has no words here; the microstep
that would look one up faults (rule R269 (f)). -/
def State.romSeqs (s : State) : OpenSeqs :=
  { lccImm := (s.openSeq .lccImm).getD []
    lccPgm := (s.openSeq .lccPgm).getD []
    calli := (s.openSeq .calli).getD []
    stoi := (s.openSeq .stoiImm).getD [] }

/-! ### Halt, resume and reset -/

/-- The host resumes a halted machine: the counter goes on, so the next microstep is the filler (rule R268,
decision D38). -/
def resume (s : State) : Result :=
  if s.halted then .next { s with halted := false, mt := s.mt + 1#3 } else .refused .resumeNotHalted

/-- The host resets the machine (rules R320 to R322): the datapath and the counter as after reset, the LCD constructed
anew in its size; the memories and the ROM are not reset. A run begins (log 8), and the waiting moves stay (log 17). -/
def hostReset (s : State) : State :=
  { State.reset with
    pmem := s.pmem
    dmem := s.dmem
    lcd := Lcd.make s.lcd.width s.lcd.height
    ops := s.ops
    openSeqs := s.openSeqs }

/-- A launch: the OPEN parameters supplied, program and data loaded from address 0 on, the LCD constructed, then reset
(rules R266, R270, R338; log 3). -/
def State.launch (seqs : OpenSupply) (program data : List Byte) (width height : Nat) : Result :=
  match Lcd.new? width height with
  | some l =>
    .next
      { State.reset with
        pmem := Memory.load [] 0#8 program
        dmem := Memory.load [] 0#8 data
        lcd := l
        openSeqs := seqs }
  | none => .refused .lcdConstruction

end Sys2Proof.Machine
end

