-- ==== Sys2Proof/Machine/Fetch.lean ====
section
/-! DEFINITION. Instruction fetch (rules R111, R112): the microsteps that the counter still has to make before microtime
2, and how an instruction's bytes are placed where the next fetch reads. -/

namespace Sys2Proof.Machine

/-- The fetch microsteps that are left: two at microtime 0, one at microtime 1, none later. -/
def fetch (s : State) : Result :=
  match s.mt.toNat with
  | 0 => andThen (commit fetch0 s) (commit fetch1)
  | 1 => commit fetch1 s
  | _ => .next s

/-- Places bytes in program memory from an address on (rule R266). -/
def placeBytes (s : State) (a : Byte) (bytes : List Byte) : State := { s with pmem := Memory.load s.pmem a bytes }

end Sys2Proof.Machine
end

