-- ==== Sys2Proof/Machine/Operands.lean ====
section
/-! DEFINITION. The operand forms, as the microsteps that bring an operand to the bus, to MAR or to Acc: the immediate
byte and the immediate pointer (rule R76), the address in a register with its memory (rules R57, R161, R188), the stack
pointer moved by one (rules R155, R156, R180 to R182), and the zero of `clra`, `jmz` and `clr` (rules R131, R134, R160). -/

namespace Sys2Proof.Machine

/-- MAR takes the PC, the address of an immediate (rule R76). -/
def stepPcToMar : SigSet := [.w .pc, .maw]

/-- MAR takes the immediate byte at MAR, an address; the PC goes on (rules R76, R151, R158, R185). -/
def stepPointer : SigSet := [.pgm, .bwMem, .pcc, .maw]

/-- MAR takes a register, an address (rules R161, R188). -/
def stepRegToMar (r : Reg) : SigSet := [.w r, .maw]

/-- An access through Rc goes to program memory (rules R161, R188). -/
def pgmIfRc (r : Reg) : SigSet := if r = .rc then [.pgm] else []

/-- Acc takes StP - 1 (rules R180 to R182). -/
def stepStackDown : SigSet := [.w .stp, .alu .aMinusB, .alw]

/-- Acc takes StP + 1 (rules R155, R156). -/
def stepStackUp : SigSet := [.w .stp, .alu .aPlusB, .alc, .alw]

/-- StP and MAR take Acc (rules R155, R156, R181, R182). -/
def stepAccToStack : SigSet := [.bwAlu, .stpw, .maw]

/-- Acc takes 0, as PC AND 0 (rules R131, R134, R160; conflict C10). -/
def stepZero : SigSet := [.w .pc, .alu .aAndB, .alw]

/-- A register takes Acc and the instruction ends (rules R160, R200 to R203). -/
def stepAccToReg (r : Reg) : SigSet := [.r r, .bwAlu, .tr]

end Sys2Proof.Machine
end

