-- ==== Sys2Proof/Machine/Alu.lean ====
section
/-! DEFINITION. The ALU group (`44_alu.md`): the sequences of rules R200 to R207, and the meaning of each of its 64
opcodes, which runs its sequence on the datapath. -/

namespace Sys2Proof.Machine

/-! ### Sequences -/

/-- `inc r` (rule R200). -/
def seqInc (r : Reg) : List SigSet := [[.w r, .alu .aPlusB, .alc, .alw], stepAccToReg r]

/-- `add r` (rule R201): no `ALC`. -/
def seqAdd (r : Reg) : List SigSet := [[.w r, .alb, .alu .aPlusB, .alw], stepAccToReg r]

/-- `sub r` (rule R202). -/
def seqSub (r : Reg) : List SigSet := [[.w r, .alb, .alu .aMinusB, .alw, .alc], stepAccToReg r]

/-- `rsb r` (rule R203). -/
def seqRsb (r : Reg) : List SigSet := [[.w r, .alb, .alu .bMinusA, .alw, .alc], stepAccToReg r]

/-- `cmp r, Rb` (rule R204). -/
def seqCmpRegRb (r : Reg) : List SigSet := [[.w r, .alb, .alc, .alu .aMinusB, .alw, .tr]]

/-- `cmp Rb, r` (rule R205). -/
def seqCmpRbReg (r : Reg) : List SigSet := [[.w r, .alb, .alc, .alu .bMinusA, .alw, .tr]]

/-- `lcc r` (rule R206). -/
def seqLccReg (r : Reg) : List SigSet := [[.lcdCommand, .lcd, .w r, .tr]]

/-- `lcd r` (rule R207). -/
def seqLcdReg (r : Reg) : List SigSet := [[.lcdData, .lcd, .w r, .tr]]

/-! ### Meanings -/

/-- `0xC0` `inc PC` (rule R200). -/
def execIncPc (s : State) : Result := runFixed (seqInc .pc) s

/-- `0xC1` `inc Ra` (rule R200). -/
def execIncRa (s : State) : Result := runFixed (seqInc .ra) s

/-- `0xC2` `inc Rb` (rule R200). -/
def execIncRb (s : State) : Result := runFixed (seqInc .rb) s

/-- `0xC3` `inc Rc` (rule R200). -/
def execIncRc (s : State) : Result := runFixed (seqInc .rc) s

/-- `0xC4` `inc Rd` (rule R200). -/
def execIncRd (s : State) : Result := runFixed (seqInc .rd) s

/-- `0xC5` `inc StP` (rule R200). -/
def execIncStp (s : State) : Result := runFixed (seqInc .stp) s

/-- `0xC6` `inc StPi` (rule R200; a pseudo register, rule R269 (a)). -/
def execIncStpi (s : State) : Result := runFixed (seqInc .stpi) s

/-- `0xC7` `inc Imm` (rule R200; a pseudo register, rule R269 (a)). -/
def execIncImm (s : State) : Result := runFixed (seqInc .imm) s

/-- `0xC8` `add PC` (rule R201). -/
def execAddPc (s : State) : Result := runFixed (seqAdd .pc) s

/-- `0xC9` `add Ra` (rule R201). -/
def execAddRa (s : State) : Result := runFixed (seqAdd .ra) s

/-- `0xCA` `add Rb` (rule R201). -/
def execAddRb (s : State) : Result := runFixed (seqAdd .rb) s

/-- `0xCB` `add Rc` (rule R201). -/
def execAddRc (s : State) : Result := runFixed (seqAdd .rc) s

/-- `0xCC` `add Rd` (rule R201). -/
def execAddRd (s : State) : Result := runFixed (seqAdd .rd) s

/-- `0xCD` `add StP` (rule R201). -/
def execAddStp (s : State) : Result := runFixed (seqAdd .stp) s

/-- `0xCE` `add StPi` (rule R201; a pseudo register, rule R269 (a)). -/
def execAddStpi (s : State) : Result := runFixed (seqAdd .stpi) s

/-- `0xCF` `add Imm` (rule R201; a pseudo register, rule R269 (a)). -/
def execAddImm (s : State) : Result := runFixed (seqAdd .imm) s

/-- `0xD0` `sub PC` (rule R202). -/
def execSubPc (s : State) : Result := runFixed (seqSub .pc) s

/-- `0xD1` `sub Ra` (rule R202). -/
def execSubRa (s : State) : Result := runFixed (seqSub .ra) s

/-- `0xD2` `sub Rb` (rule R202). -/
def execSubRb (s : State) : Result := runFixed (seqSub .rb) s

/-- `0xD3` `sub Rc` (rule R202). -/
def execSubRc (s : State) : Result := runFixed (seqSub .rc) s

/-- `0xD4` `sub Rd` (rule R202). -/
def execSubRd (s : State) : Result := runFixed (seqSub .rd) s

/-- `0xD5` `sub StP` (rule R202). -/
def execSubStp (s : State) : Result := runFixed (seqSub .stp) s

/-- `0xD6` `sub StPi` (rule R202; a pseudo register, rule R269 (a)). -/
def execSubStpi (s : State) : Result := runFixed (seqSub .stpi) s

/-- `0xD7` `sub Imm` (rule R202; a pseudo register, rule R269 (a)). -/
def execSubImm (s : State) : Result := runFixed (seqSub .imm) s

/-- `0xD8` `rsb PC` (rule R203). -/
def execRsbPc (s : State) : Result := runFixed (seqRsb .pc) s

/-- `0xD9` `rsb Ra` (rule R203). -/
def execRsbRa (s : State) : Result := runFixed (seqRsb .ra) s

/-- `0xDA` `rsb Rb` (rule R203). -/
def execRsbRb (s : State) : Result := runFixed (seqRsb .rb) s

/-- `0xDB` `rsb Rc` (rule R203). -/
def execRsbRc (s : State) : Result := runFixed (seqRsb .rc) s

/-- `0xDC` `rsb Rd` (rule R203). -/
def execRsbRd (s : State) : Result := runFixed (seqRsb .rd) s

/-- `0xDD` `rsb StP` (rule R203). -/
def execRsbStp (s : State) : Result := runFixed (seqRsb .stp) s

/-- `0xDE` `rsb StPi` (rule R203; a pseudo register, rule R269 (a)). -/
def execRsbStpi (s : State) : Result := runFixed (seqRsb .stpi) s

/-- `0xDF` `rsb Imm` (rule R203; a pseudo register, rule R269 (a)). -/
def execRsbImm (s : State) : Result := runFixed (seqRsb .imm) s

/-- `0xE0` `cmp PC, Rb` (rule R204). -/
def execCmpPcRb (s : State) : Result := runFixed (seqCmpRegRb .pc) s

/-- `0xE1` `cmp Ra, Rb` (rule R204). -/
def execCmpRaRb (s : State) : Result := runFixed (seqCmpRegRb .ra) s

/-- `0xE2` `cmp Rb, Rb` (rule R204). -/
def execCmpRbRb (s : State) : Result := runFixed (seqCmpRegRb .rb) s

/-- `0xE3` `cmp Rc, Rb` (rule R204). -/
def execCmpRcRb (s : State) : Result := runFixed (seqCmpRegRb .rc) s

/-- `0xE4` `cmp Rd, Rb` (rule R204). -/
def execCmpRdRb (s : State) : Result := runFixed (seqCmpRegRb .rd) s

/-- `0xE5` `cmp StP, Rb` (rule R204). -/
def execCmpStpRb (s : State) : Result := runFixed (seqCmpRegRb .stp) s

/-- `0xE6` `cmp StPi, Rb` (rule R204; a pseudo register, rule R269 (a)). -/
def execCmpStpiRb (s : State) : Result := runFixed (seqCmpRegRb .stpi) s

/-- `0xE7` `cmp Imm, Rb` (rule R204; a pseudo register, rule R269 (a)). -/
def execCmpImmRb (s : State) : Result := runFixed (seqCmpRegRb .imm) s

/-- `0xE8` `cmp Rb, PC` (rule R205). -/
def execCmpRbPc (s : State) : Result := runFixed (seqCmpRbReg .pc) s

/-- `0xE9` `cmp Rb, Ra` (rule R205). -/
def execCmpRbRa (s : State) : Result := runFixed (seqCmpRbReg .ra) s

/-- `0xEA` `cmp Rb, Rb` (rule R205). -/
def execCmpRbRbRev (s : State) : Result := runFixed (seqCmpRbReg .rb) s

/-- `0xEB` `cmp Rb, Rc` (rule R205). -/
def execCmpRbRc (s : State) : Result := runFixed (seqCmpRbReg .rc) s

/-- `0xEC` `cmp Rb, Rd` (rule R205). -/
def execCmpRbRd (s : State) : Result := runFixed (seqCmpRbReg .rd) s

/-- `0xED` `cmp Rb, StP` (rule R205). -/
def execCmpRbStp (s : State) : Result := runFixed (seqCmpRbReg .stp) s

/-- `0xEE` `cmp Rb, StPi` (rule R205; a pseudo register, rule R269 (a)). -/
def execCmpRbStpi (s : State) : Result := runFixed (seqCmpRbReg .stpi) s

/-- `0xEF` `cmp Rb, Imm` (rule R205; a pseudo register, rule R269 (a)). -/
def execCmpRbImm (s : State) : Result := runFixed (seqCmpRbReg .imm) s

/-- `0xF0` `lcc PC` (rule R206). -/
def execLccRegPc (s : State) : Result := runFixed (seqLccReg .pc) s

/-- `0xF1` `lcc Ra` (rule R206). -/
def execLccRegRa (s : State) : Result := runFixed (seqLccReg .ra) s

/-- `0xF2` `lcc Rb` (rule R206). -/
def execLccRegRb (s : State) : Result := runFixed (seqLccReg .rb) s

/-- `0xF3` `lcc Rc` (rule R206). -/
def execLccRegRc (s : State) : Result := runFixed (seqLccReg .rc) s

/-- `0xF4` `lcc Rd` (rule R206). -/
def execLccRegRd (s : State) : Result := runFixed (seqLccReg .rd) s

/-- `0xF5` `lcc StP` (rule R206). -/
def execLccRegStp (s : State) : Result := runFixed (seqLccReg .stp) s

/-- `0xF6` `lcc StPi` (rule R206; a pseudo register, rule R269 (a)). -/
def execLccRegStpi (s : State) : Result := runFixed (seqLccReg .stpi) s

/-- `0xF7` `lcc Imm` (rule R206; a pseudo register, rule R269 (a)). -/
def execLccRegImm (s : State) : Result := runFixed (seqLccReg .imm) s

/-- `0xF8` `lcd PC` (rule R207). -/
def execLcdRegPc (s : State) : Result := runFixed (seqLcdReg .pc) s

/-- `0xF9` `lcd Ra` (rule R207). -/
def execLcdRegRa (s : State) : Result := runFixed (seqLcdReg .ra) s

/-- `0xFA` `lcd Rb` (rule R207). -/
def execLcdRegRb (s : State) : Result := runFixed (seqLcdReg .rb) s

/-- `0xFB` `lcd Rc` (rule R207). -/
def execLcdRegRc (s : State) : Result := runFixed (seqLcdReg .rc) s

/-- `0xFC` `lcd Rd` (rule R207). -/
def execLcdRegRd (s : State) : Result := runFixed (seqLcdReg .rd) s

/-- `0xFD` `lcd StP` (rule R207). -/
def execLcdRegStp (s : State) : Result := runFixed (seqLcdReg .stp) s

/-- `0xFE` `lcd StPi` (rule R207; a pseudo register, rule R269 (a)). -/
def execLcdRegStpi (s : State) : Result := runFixed (seqLcdReg .stpi) s

/-- `0xFF` `lcd Imm` (rule R207; a pseudo register, rule R269 (a)). -/
def execLcdRegImm (s : State) : Result := runFixed (seqLcdReg .imm) s

end Sys2Proof.Machine
end

