-- ==== Sys2Proof/Machine/Lod.lean ====
section
/-! DEFINITION. The LOD group (`42_lod.md`): the sequences of rules R150 to R161 and the meaning of each of its 62
opcodes whose microsteps the spec gives. The two OPEN ones are in Sys2Proof/Machine/Open.lean. -/

namespace Sys2Proof.Machine

/-! ### Sequences -/

/-- `peek s` (rule R150). -/
def seqPeek (d : Reg) : List SigSet := [[.w .stp, .maw], [.r d, .bwMem, .tr]]

/-- `lcc mem` (rule R151). -/
def seqLccMem : List SigSet := [stepPcToMar, stepPointer, [.bwMem, .lcdCommand, .lcd, .tr]]

/-- `lcd pgm` (rule R154). -/
def seqLcdPgm : List SigSet := [stepPcToMar, stepPointer, [.pgm, .bwMem, .lcd, .lcdData, .tr]]

/-- `ret` (rules R155, R186): Acc is kept in the PC while the ALU adds 1 to StP. -/
def seqRet : List SigSet :=
  [[.bwAlu, .r .pc], stepStackUp, stepAccToStack, [.w .pc, .alu .aPlusB, .alw], [.bwMem, .r .pc, .tr]]

/-- `pop d` (rules R156, R187). -/
def seqPop (d : Reg) : List SigSet := [stepStackUp, stepAccToStack, [.bwMem, .r d, .tr]]

/-- `lod d, *Imm` (rule R158). -/
def seqLodImm (d : Reg) : List SigSet := [stepPcToMar, stepPointer, [.bwMem, .r d, .tr]]

/-- `lcd imm` (rule R159). -/
def seqLcdImm : List SigSet := [stepPcToMar, [.pgm, .bwMem, .pcc, .lcd, .lcdData, .tr]]

/-- `clr s` (rule R160). -/
def seqClr (d : Reg) : List SigSet := [stepZero, stepAccToReg d]

/-- `lod d, *s` and `lod d, PGM*Rc` (rule R161). -/
def seqLod (d s : Reg) : List SigSet := [stepRegToMar s, pgmIfRc s ++ [.bwMem, .r d, .tr]]

/-! ### Meanings -/

/-- `0x40` `lod PC, *PC` (rule R161). -/
def execLodPcAtPc (s : State) : Result := runFixed (seqLod .pc .pc) s

/-- `0x41` `lod PC, *Ra` (rule R161). -/
def execLodPcAtRa (s : State) : Result := runFixed (seqLod .pc .ra) s

/-- `0x42` `lod PC, *Rb` (rule R161). -/
def execLodPcAtRb (s : State) : Result := runFixed (seqLod .pc .rb) s

/-- `0x43` `lod PC, PGM*Rc` (rule R161). -/
def execLodPcPgmRc (s : State) : Result := runFixed (seqLod .pc .rc) s

/-- `0x44` `lod PC, *Rd` (rule R161). -/
def execLodPcAtRd (s : State) : Result := runFixed (seqLod .pc .rd) s

/-- `0x45` `lod PC, *StP` (rule R161). -/
def execLodPcAtStp (s : State) : Result := runFixed (seqLod .pc .stp) s

/-- `0x46` `ret` (rule R155). -/
def execRet (s : State) : Result := runFixed seqRet s

/-- `0x47` `lod PC, *Imm` (rule R158). -/
def execLodPcAtImm (s : State) : Result := runFixed (seqLodImm .pc) s

/-- `0x48` `lod Ra, *PC` (rule R161). -/
def execLodRaAtPc (s : State) : Result := runFixed (seqLod .ra .pc) s

/-- `0x49` `lod Ra, *Ra` (rule R161). -/
def execLodRaAtRa (s : State) : Result := runFixed (seqLod .ra .ra) s

/-- `0x4A` `lod Ra, *Rb` (rule R161). -/
def execLodRaAtRb (s : State) : Result := runFixed (seqLod .ra .rb) s

/-- `0x4B` `lod Ra, PGM*Rc` (rule R161). -/
def execLodRaPgmRc (s : State) : Result := runFixed (seqLod .ra .rc) s

/-- `0x4C` `lod Ra, *Rd` (rule R161). -/
def execLodRaAtRd (s : State) : Result := runFixed (seqLod .ra .rd) s

/-- `0x4D` `lod Ra, *StP` (rule R161). -/
def execLodRaAtStp (s : State) : Result := runFixed (seqLod .ra .stp) s

/-- `0x4E` `pop Ra` (rule R156). -/
def execPopRa (s : State) : Result := runFixed (seqPop .ra) s

/-- `0x4F` `lod Ra, *Imm` (rule R158). -/
def execLodRaAtImm (s : State) : Result := runFixed (seqLodImm .ra) s

/-- `0x50` `lod Rb, *PC` (rule R161). -/
def execLodRbAtPc (s : State) : Result := runFixed (seqLod .rb .pc) s

/-- `0x51` `lod Rb, *Ra` (rule R161). -/
def execLodRbAtRa (s : State) : Result := runFixed (seqLod .rb .ra) s

/-- `0x52` `lod Rb, *Rb` (rule R161). -/
def execLodRbAtRb (s : State) : Result := runFixed (seqLod .rb .rb) s

/-- `0x53` `lod Rb, PGM*Rc` (rule R161). -/
def execLodRbPgmRc (s : State) : Result := runFixed (seqLod .rb .rc) s

/-- `0x54` `lod Rb, *Rd` (rule R161). -/
def execLodRbAtRd (s : State) : Result := runFixed (seqLod .rb .rd) s

/-- `0x55` `lod Rb, *StP` (rule R161). -/
def execLodRbAtStp (s : State) : Result := runFixed (seqLod .rb .stp) s

/-- `0x56` `pop Rb` (rule R156). -/
def execPopRb (s : State) : Result := runFixed (seqPop .rb) s

/-- `0x57` `lod Rb, *Imm` (rule R158). -/
def execLodRbAtImm (s : State) : Result := runFixed (seqLodImm .rb) s

/-- `0x58` `lod Rc, *PC` (rule R161). -/
def execLodRcAtPc (s : State) : Result := runFixed (seqLod .rc .pc) s

/-- `0x59` `lod Rc, *Ra` (rule R161). -/
def execLodRcAtRa (s : State) : Result := runFixed (seqLod .rc .ra) s

/-- `0x5A` `lod Rc, *Rb` (rule R161). -/
def execLodRcAtRb (s : State) : Result := runFixed (seqLod .rc .rb) s

/-- `0x5B` `lod Rc, PGM*Rc` (rule R161). -/
def execLodRcPgmRc (s : State) : Result := runFixed (seqLod .rc .rc) s

/-- `0x5C` `lod Rc, *Rd` (rule R161). -/
def execLodRcAtRd (s : State) : Result := runFixed (seqLod .rc .rd) s

/-- `0x5D` `lod Rc, *StP` (rule R161). -/
def execLodRcAtStp (s : State) : Result := runFixed (seqLod .rc .stp) s

/-- `0x5E` `pop Rc` (rule R156). -/
def execPopRc (s : State) : Result := runFixed (seqPop .rc) s

/-- `0x5F` `lod Rc, *Imm` (rule R158). -/
def execLodRcAtImm (s : State) : Result := runFixed (seqLodImm .rc) s

/-- `0x60` `lod Rd, *PC` (rule R161). -/
def execLodRdAtPc (s : State) : Result := runFixed (seqLod .rd .pc) s

/-- `0x61` `lod Rd, *Ra` (rule R161). -/
def execLodRdAtRa (s : State) : Result := runFixed (seqLod .rd .ra) s

/-- `0x62` `lod Rd, *Rb` (rule R161). -/
def execLodRdAtRb (s : State) : Result := runFixed (seqLod .rd .rb) s

/-- `0x63` `lod Rd, PGM*Rc` (rule R161). -/
def execLodRdPgmRc (s : State) : Result := runFixed (seqLod .rd .rc) s

/-- `0x64` `lod Rd, *Rd` (rule R161). -/
def execLodRdAtRd (s : State) : Result := runFixed (seqLod .rd .rd) s

/-- `0x65` `lod Rd, *StP` (rule R161). -/
def execLodRdAtStp (s : State) : Result := runFixed (seqLod .rd .stp) s

/-- `0x66` `pop Rd` (rule R156). -/
def execPopRd (s : State) : Result := runFixed (seqPop .rd) s

/-- `0x67` `lod Rd, *Imm` (rule R158). -/
def execLodRdAtImm (s : State) : Result := runFixed (seqLodImm .rd) s

/-- `0x68` `lod StP, *PC` (rule R161). -/
def execLodStpAtPc (s : State) : Result := runFixed (seqLod .stp .pc) s

/-- `0x69` `lod StP, *Ra` (rule R161). -/
def execLodStpAtRa (s : State) : Result := runFixed (seqLod .stp .ra) s

/-- `0x6A` `lod StP, *Rb` (rule R161). -/
def execLodStpAtRb (s : State) : Result := runFixed (seqLod .stp .rb) s

/-- `0x6B` `lod StP, PGM*Rc` (rule R161). -/
def execLodStpPgmRc (s : State) : Result := runFixed (seqLod .stp .rc) s

/-- `0x6C` `lod StP, *Rd` (rule R161). -/
def execLodStpAtRd (s : State) : Result := runFixed (seqLod .stp .rd) s

/-- `0x6D` `lod StP, *StP` (rule R161). -/
def execLodStpAtStp (s : State) : Result := runFixed (seqLod .stp .stp) s

/-- `0x6E` `pop StP` (rule R156). -/
def execPopStp (s : State) : Result := runFixed (seqPop .stp) s

/-- `0x6F` `lod StP, *Imm` (rule R158). -/
def execLodStpAtImm (s : State) : Result := runFixed (seqLodImm .stp) s

/-- `0x70` `peek PC` (rule R150). -/
def execPeekPc (s : State) : Result := runFixed (seqPeek .pc) s

/-- `0x71` `peek Ra` (rule R150). -/
def execPeekRa (s : State) : Result := runFixed (seqPeek .ra) s

/-- `0x72` `peek Rb` (rule R150). -/
def execPeekRb (s : State) : Result := runFixed (seqPeek .rb) s

/-- `0x73` `peek Rc` (rule R150). -/
def execPeekRc (s : State) : Result := runFixed (seqPeek .rc) s

/-- `0x74` `peek Rd` (rule R150). -/
def execPeekRd (s : State) : Result := runFixed (seqPeek .rd) s

/-- `0x75` `lcc mem` (rule R151). -/
def execLccMem (s : State) : Result := runFixed seqLccMem s

/-- `0x77` `lcd pgm` (rule R154). -/
def execLcdPgm (s : State) : Result := runFixed seqLcdPgm s

/-- `0x78` `clr PC` (rule R160). -/
def execClrPc (s : State) : Result := runFixed (seqClr .pc) s

/-- `0x79` `clr Ra` (rule R160). -/
def execClrRa (s : State) : Result := runFixed (seqClr .ra) s

/-- `0x7A` `clr Rb` (rule R160). -/
def execClrRb (s : State) : Result := runFixed (seqClr .rb) s

/-- `0x7B` `clr Rc` (rule R160). -/
def execClrRc (s : State) : Result := runFixed (seqClr .rc) s

/-- `0x7C` `clr Rd` (rule R160). -/
def execClrRd (s : State) : Result := runFixed (seqClr .rd) s

/-- `0x7D` `clr StP` (rule R160). -/
def execClrStp (s : State) : Result := runFixed (seqClr .stp) s

/-- `0x7F` `lcd imm` (rule R159). -/
def execLcdImm (s : State) : Result := runFixed seqLcdImm s

end Sys2Proof.Machine
end

