-- ==== Sys2Proof/Machine/Mov.lean ====
section
/-! DEFINITION. The MOV group (`41_mov.md`): the sequences of rules R130 to R140, and the meaning of each of its 64
opcodes, which runs its sequence on the datapath. -/

namespace Sys2Proof.Machine

/-! ### Sequences -/

/-- Conditional jump (rule R130): the immediate to the PC when the condition holds, else the PC past it. -/
def seqCondJump (c : Cond) (f : Flags) : List SigSet :=
  if condHolds c f then [stepPcToMar, [.pgm, .bwMem, .r .pc, .tr]] else [[.pcc], [.tr]]

/-- `clra` (rule R131). -/
def seqClra : List SigSet :=
  [stepZero, [.bwAlu, .r .ra, .r .rb, .r .rc, .r .rd, .r .stp, .tr]]

/-- `movi d, Imm` (rule R132). -/
def seqMovi (d : Reg) : List SigSet := [stepPcToMar, [.pcc, .pgm, .bwMem, .r d, .tr]]

/-- `jmpi Imm` (rule R133). -/
def seqJmpi : List SigSet := [stepPcToMar, [.pgm, .bwMem, .r .pc, .tr]]

/-- `jmz` (rule R134). -/
def seqJmz : List SigSet := [stepZero, [.bwAlu, .r .pc, .tr]]

/-- `tst s` (rule R135). -/
def seqTst (s : Reg) : List SigSet := [[.w s, .alu .aPlusB, .alw, .tr]]

/-- `mov d, s` and `jmp s` (rule R136). -/
def seqMov (d s : Reg) : List SigSet := [[.w s, .r d, .tr]]

/-- `hlt` (rule R137). -/
def seqHlt : List SigSet := [[.hlt]]

/-- An undefined opcode (rule R138). -/
def seqUndef : List SigSet := [[.tr]]

/-- `nop` (rule R140). -/
def seqNop : List SigSet := [[.tr]]

/-! ### Meanings -/

/-- `0x00` `hlt` (rule R137). -/
def execHlt (s : State) : Result := runFixed seqHlt s

/-- `0x01` `jmp Ra` (rule R136). -/
def execJmpRa (s : State) : Result := runFixed (seqMov .pc .ra) s

/-- `0x02` `jmp Rb` (rule R136). -/
def execJmpRb (s : State) : Result := runFixed (seqMov .pc .rb) s

/-- `0x03` `jmp Rc` (rule R136). -/
def execJmpRc (s : State) : Result := runFixed (seqMov .pc .rc) s

/-- `0x04` `jmp Rd` (rule R136). -/
def execJmpRd (s : State) : Result := runFixed (seqMov .pc .rd) s

/-- `0x05` `jmp StP` (rule R136). -/
def execJmpStp (s : State) : Result := runFixed (seqMov .pc .stp) s

/-- `0x06` `jmp StPi` (rule R136; a pseudo register, rule R269 (a)). -/
def execJmpStpi (s : State) : Result := runFixed (seqMov .pc .stpi) s

/-- `0x07` `jmpi Imm` (rule R133). -/
def execJmpi (s : State) : Result := runFixed seqJmpi s

/-- `0x08` `mov Ra, PC` (rule R136). -/
def execMovRaPc (s : State) : Result := runFixed (seqMov .ra .pc) s

/-- `0x09` `nop` (rule R140). -/
def execNop (s : State) : Result := runFixed seqNop s

/-- `0x0A` `mov Ra, Rb` (rule R136). -/
def execMovRaRb (s : State) : Result := runFixed (seqMov .ra .rb) s

/-- `0x0B` `mov Ra, Rc` (rule R136). -/
def execMovRaRc (s : State) : Result := runFixed (seqMov .ra .rc) s

/-- `0x0C` `mov Ra, Rd` (rule R136). -/
def execMovRaRd (s : State) : Result := runFixed (seqMov .ra .rd) s

/-- `0x0D` `mov Ra, StP` (rule R136). -/
def execMovRaStp (s : State) : Result := runFixed (seqMov .ra .stp) s

/-- `0x0E` `mov Ra, StPi` (rule R136; a pseudo register, rule R269 (a)). -/
def execMovRaStpi (s : State) : Result := runFixed (seqMov .ra .stpi) s

/-- `0x0F` `movi Ra, Imm` (rule R132). -/
def execMoviRa (s : State) : Result := runFixed (seqMovi .ra) s

/-- `0x10` `mov Rb, PC` (rule R136). -/
def execMovRbPc (s : State) : Result := runFixed (seqMov .rb .pc) s

/-- `0x11` `mov Rb, Ra` (rule R136). -/
def execMovRbRa (s : State) : Result := runFixed (seqMov .rb .ra) s

/-- `0x12` `undefined` (rule R138). -/
def execUndefined12 (s : State) : Result := runFixed seqUndef s

/-- `0x13` `mov Rb, Rc` (rule R136). -/
def execMovRbRc (s : State) : Result := runFixed (seqMov .rb .rc) s

/-- `0x14` `mov Rb, Rd` (rule R136). -/
def execMovRbRd (s : State) : Result := runFixed (seqMov .rb .rd) s

/-- `0x15` `mov Rb, StP` (rule R136). -/
def execMovRbStp (s : State) : Result := runFixed (seqMov .rb .stp) s

/-- `0x16` `mov Rb, StPi` (rule R136; a pseudo register, rule R269 (a)). -/
def execMovRbStpi (s : State) : Result := runFixed (seqMov .rb .stpi) s

/-- `0x17` `movi Rb, Imm` (rule R132). -/
def execMoviRb (s : State) : Result := runFixed (seqMovi .rb) s

/-- `0x18` `mov Rc, PC` (rule R136). -/
def execMovRcPc (s : State) : Result := runFixed (seqMov .rc .pc) s

/-- `0x19` `mov Rc, Ra` (rule R136). -/
def execMovRcRa (s : State) : Result := runFixed (seqMov .rc .ra) s

/-- `0x1A` `mov Rc, Rb` (rule R136). -/
def execMovRcRb (s : State) : Result := runFixed (seqMov .rc .rb) s

/-- `0x1B` `undefined` (rule R138). -/
def execUndefined1B (s : State) : Result := runFixed seqUndef s

/-- `0x1C` `mov Rc, Rd` (rule R136). -/
def execMovRcRd (s : State) : Result := runFixed (seqMov .rc .rd) s

/-- `0x1D` `mov Rc, StP` (rule R136). -/
def execMovRcStp (s : State) : Result := runFixed (seqMov .rc .stp) s

/-- `0x1E` `mov Rc, StPi` (rule R136; a pseudo register, rule R269 (a)). -/
def execMovRcStpi (s : State) : Result := runFixed (seqMov .rc .stpi) s

/-- `0x1F` `movi Rc, Imm` (rule R132). -/
def execMoviRc (s : State) : Result := runFixed (seqMovi .rc) s

/-- `0x20` `mov Rd, PC` (rule R136). -/
def execMovRdPc (s : State) : Result := runFixed (seqMov .rd .pc) s

/-- `0x21` `mov Rd, Ra` (rule R136). -/
def execMovRdRa (s : State) : Result := runFixed (seqMov .rd .ra) s

/-- `0x22` `mov Rd, Rb` (rule R136). -/
def execMovRdRb (s : State) : Result := runFixed (seqMov .rd .rb) s

/-- `0x23` `mov Rd, Rc` (rule R136). -/
def execMovRdRc (s : State) : Result := runFixed (seqMov .rd .rc) s

/-- `0x24` `undefined` (rule R138). -/
def execUndefined24 (s : State) : Result := runFixed seqUndef s

/-- `0x25` `mov Rd, StP` (rule R136). -/
def execMovRdStp (s : State) : Result := runFixed (seqMov .rd .stp) s

/-- `0x26` `mov Rd, StPi` (rule R136; a pseudo register, rule R269 (a)). -/
def execMovRdStpi (s : State) : Result := runFixed (seqMov .rd .stpi) s

/-- `0x27` `movi Rd, Imm` (rule R132). -/
def execMoviRd (s : State) : Result := runFixed (seqMovi .rd) s

/-- `0x28` `mov StP, PC` (rule R136). -/
def execMovStpPc (s : State) : Result := runFixed (seqMov .stp .pc) s

/-- `0x29` `mov StP, Ra` (rule R136). -/
def execMovStpRa (s : State) : Result := runFixed (seqMov .stp .ra) s

/-- `0x2A` `mov StP, Rb` (rule R136). -/
def execMovStpRb (s : State) : Result := runFixed (seqMov .stp .rb) s

/-- `0x2B` `mov StP, Rc` (rule R136). -/
def execMovStpRc (s : State) : Result := runFixed (seqMov .stp .rc) s

/-- `0x2C` `mov StP, Rd` (rule R136). -/
def execMovStpRd (s : State) : Result := runFixed (seqMov .stp .rd) s

/-- `0x2D` `undefined` (rule R138). -/
def execUndefined2D (s : State) : Result := runFixed seqUndef s

/-- `0x2E` `mov StP, StPi` (rule R136; a pseudo register, rule R269 (a)). -/
def execMovStpStpi (s : State) : Result := runFixed (seqMov .stp .stpi) s

/-- `0x2F` `movi StP, Imm` (rule R132). -/
def execMoviStp (s : State) : Result := runFixed (seqMovi .stp) s

/-- `0x30` `jmz` (rule R134). -/
def execJmz (s : State) : Result := runFixed seqJmz s

/-- `0x31` `tst Ra` (rule R135). -/
def execTstRa (s : State) : Result := runFixed (seqTst .ra) s

/-- `0x32` `tst Rb` (rule R135). -/
def execTstRb (s : State) : Result := runFixed (seqTst .rb) s

/-- `0x33` `tst Rc` (rule R135). -/
def execTstRc (s : State) : Result := runFixed (seqTst .rc) s

/-- `0x34` `tst Rd` (rule R135). -/
def execTstRd (s : State) : Result := runFixed (seqTst .rd) s

/-- `0x35` `tst StP` (rule R135). -/
def execTstStp (s : State) : Result := runFixed (seqTst .stp) s

/-- `0x36` `undefined` (rule R138). -/
def execUndefined36 (s : State) : Result := runFixed seqUndef s

/-- `0x37` `clra` (rule R131). -/
def execClra (s : State) : Result := runFixed seqClra s

/-- `0x38` `jc Imm` (rule R130). -/
def execJc (s : State) : Result := runSeq (seqCondJump .carry) s

/-- `0x39` `jz Imm` (rule R130). -/
def execJz (s : State) : Result := runSeq (seqCondJump .zero) s

/-- `0x3A` `jo Imm` (rule R130). -/
def execJo (s : State) : Result := runSeq (seqCondJump .oflow) s

/-- `0x3B` `jnn Imm` (rule R130). -/
def execJnn (s : State) : Result := runSeq (seqCondJump .notNeg) s

/-- `0x3C` `jn Imm` (rule R130). -/
def execJn (s : State) : Result := runSeq (seqCondJump .neg) s

/-- `0x3D` `jno Imm` (rule R130). -/
def execJno (s : State) : Result := runSeq (seqCondJump .notOflow) s

/-- `0x3E` `jnz Imm` (rule R130). -/
def execJnz (s : State) : Result := runSeq (seqCondJump .notZero) s

/-- `0x3F` `jnc Imm` (rule R130). -/
def execJnc (s : State) : Result := runSeq (seqCondJump .notCarry) s

end Sys2Proof.Machine
end

