-- ==== Sys2Proof/Machine/Sto.lean ====
section
/-! DEFINITION. The STO group (`43_sto.md`): the sequences of rules R180 to R188 and the meaning of each of its 62
opcodes whose microsteps the spec gives. The two OPEN ones are in Sys2Proof/Machine/Open.lean. -/

namespace Sys2Proof.Machine

/-! ### Sequences -/

/-- `pushi Imm` (rule R180). -/
def seqPushi : List SigSet :=
  [stepStackDown, [.bwAlu, .stpw], stepPcToMar, [.pgm, .bwMem, .pcc, .alu .aPlusB, .alw], stepRegToMar .stp,
    [.bwAlu, .mw, .tr]]

/-- `call Rc` (rule R181). -/
def seqCall : List SigSet := [stepStackDown, stepAccToStack, [.w .pc, .mw], [.w .rc, .r .pc, .tr]]

/-- `push s` (rule R182). -/
def seqPush (s : Reg) : List SigSet := [stepStackDown, stepAccToStack, [.w s, .mw, .tr]]

/-- `stoi s` (rule R185). -/
def seqStoi (s : Reg) : List SigSet := [stepPcToMar, stepPointer, [.w s, .mw, .tr]]

/-- `sto *d = s` and `sto PGM*Rc = s` (rule R188). -/
def seqSto (d s : Reg) : List SigSet := [stepRegToMar d, pgmIfRc d ++ [.w s, .mw, .tr]]

/-! ### Meanings -/

/-- `0x80` `sto *PC = PC` (rule R188). -/
def execStoAtPcPc (s : State) : Result := runFixed (seqSto .pc .pc) s

/-- `0x81` `sto *PC = Ra` (rule R188). -/
def execStoAtPcRa (s : State) : Result := runFixed (seqSto .pc .ra) s

/-- `0x82` `sto *PC = Rb` (rule R188). -/
def execStoAtPcRb (s : State) : Result := runFixed (seqSto .pc .rb) s

/-- `0x83` `sto *PC = Rc` (rule R188). -/
def execStoAtPcRc (s : State) : Result := runFixed (seqSto .pc .rc) s

/-- `0x84` `sto *PC = Rd` (rule R188). -/
def execStoAtPcRd (s : State) : Result := runFixed (seqSto .pc .rd) s

/-- `0x85` `sto *PC = StP` (rule R188). -/
def execStoAtPcStp (s : State) : Result := runFixed (seqSto .pc .stp) s

/-- `0x86` `ret` (rule R186). -/
def execRetSto (s : State) : Result := runFixed seqRet s

/-- `0x87` `sto *PC = Imm` (rule R188; a pseudo register, rule R269 (a)). -/
def execStoAtPcImm (s : State) : Result := runFixed (seqSto .pc .imm) s

/-- `0x88` `sto *Ra = PC` (rule R188). -/
def execStoAtRaPc (s : State) : Result := runFixed (seqSto .ra .pc) s

/-- `0x89` `sto *Ra = Ra` (rule R188). -/
def execStoAtRaRa (s : State) : Result := runFixed (seqSto .ra .ra) s

/-- `0x8A` `sto *Ra = Rb` (rule R188). -/
def execStoAtRaRb (s : State) : Result := runFixed (seqSto .ra .rb) s

/-- `0x8B` `sto *Ra = Rc` (rule R188). -/
def execStoAtRaRc (s : State) : Result := runFixed (seqSto .ra .rc) s

/-- `0x8C` `sto *Ra = Rd` (rule R188). -/
def execStoAtRaRd (s : State) : Result := runFixed (seqSto .ra .rd) s

/-- `0x8D` `sto *Ra = StP` (rule R188). -/
def execStoAtRaStp (s : State) : Result := runFixed (seqSto .ra .stp) s

/-- `0x8E` `pop Ra` (rule R187). -/
def execPopRaSto (s : State) : Result := runFixed (seqPop .ra) s

/-- `0x8F` `sto *Ra = Imm` (rule R188; a pseudo register, rule R269 (a)). -/
def execStoAtRaImm (s : State) : Result := runFixed (seqSto .ra .imm) s

/-- `0x90` `sto *Rb = PC` (rule R188). -/
def execStoAtRbPc (s : State) : Result := runFixed (seqSto .rb .pc) s

/-- `0x91` `sto *Rb = Ra` (rule R188). -/
def execStoAtRbRa (s : State) : Result := runFixed (seqSto .rb .ra) s

/-- `0x92` `sto *Rb = Rb` (rule R188). -/
def execStoAtRbRb (s : State) : Result := runFixed (seqSto .rb .rb) s

/-- `0x93` `sto *Rb = Rc` (rule R188). -/
def execStoAtRbRc (s : State) : Result := runFixed (seqSto .rb .rc) s

/-- `0x94` `sto *Rb = Rd` (rule R188). -/
def execStoAtRbRd (s : State) : Result := runFixed (seqSto .rb .rd) s

/-- `0x95` `sto *Rb = StP` (rule R188). -/
def execStoAtRbStp (s : State) : Result := runFixed (seqSto .rb .stp) s

/-- `0x96` `pop Rb` (rule R187). -/
def execPopRbSto (s : State) : Result := runFixed (seqPop .rb) s

/-- `0x97` `sto *Rb = Imm` (rule R188; a pseudo register, rule R269 (a)). -/
def execStoAtRbImm (s : State) : Result := runFixed (seqSto .rb .imm) s

/-- `0x98` `sto PGM*Rc = PC` (rule R188). -/
def execStoPgmRcPc (s : State) : Result := runFixed (seqSto .rc .pc) s

/-- `0x99` `sto PGM*Rc = Ra` (rule R188). -/
def execStoPgmRcRa (s : State) : Result := runFixed (seqSto .rc .ra) s

/-- `0x9A` `sto PGM*Rc = Rb` (rule R188). -/
def execStoPgmRcRb (s : State) : Result := runFixed (seqSto .rc .rb) s

/-- `0x9B` `sto PGM*Rc = Rc` (rule R188). -/
def execStoPgmRcRc (s : State) : Result := runFixed (seqSto .rc .rc) s

/-- `0x9C` `sto PGM*Rc = Rd` (rule R188). -/
def execStoPgmRcRd (s : State) : Result := runFixed (seqSto .rc .rd) s

/-- `0x9D` `sto PGM*Rc = StP` (rule R188). -/
def execStoPgmRcStp (s : State) : Result := runFixed (seqSto .rc .stp) s

/-- `0x9E` `pop Rc` (rule R187). -/
def execPopRcSto (s : State) : Result := runFixed (seqPop .rc) s

/-- `0x9F` `sto PGM*Rc = Imm` (rule R188; a pseudo register, rule R269 (a)). -/
def execStoPgmRcImm (s : State) : Result := runFixed (seqSto .rc .imm) s

/-- `0xA0` `sto *Rd = PC` (rule R188). -/
def execStoAtRdPc (s : State) : Result := runFixed (seqSto .rd .pc) s

/-- `0xA1` `sto *Rd = Ra` (rule R188). -/
def execStoAtRdRa (s : State) : Result := runFixed (seqSto .rd .ra) s

/-- `0xA2` `sto *Rd = Rb` (rule R188). -/
def execStoAtRdRb (s : State) : Result := runFixed (seqSto .rd .rb) s

/-- `0xA3` `sto *Rd = Rc` (rule R188). -/
def execStoAtRdRc (s : State) : Result := runFixed (seqSto .rd .rc) s

/-- `0xA4` `sto *Rd = Rd` (rule R188). -/
def execStoAtRdRd (s : State) : Result := runFixed (seqSto .rd .rd) s

/-- `0xA5` `sto *Rd = StP` (rule R188). -/
def execStoAtRdStp (s : State) : Result := runFixed (seqSto .rd .stp) s

/-- `0xA6` `pop Rd` (rule R187). -/
def execPopRdSto (s : State) : Result := runFixed (seqPop .rd) s

/-- `0xA7` `sto *Rd = Imm` (rule R188; a pseudo register, rule R269 (a)). -/
def execStoAtRdImm (s : State) : Result := runFixed (seqSto .rd .imm) s

/-- `0xA8` `sto *StP = PC` (rule R188). -/
def execStoAtStpPc (s : State) : Result := runFixed (seqSto .stp .pc) s

/-- `0xA9` `sto *StP = Ra` (rule R188). -/
def execStoAtStpRa (s : State) : Result := runFixed (seqSto .stp .ra) s

/-- `0xAA` `sto *StP = Rb` (rule R188). -/
def execStoAtStpRb (s : State) : Result := runFixed (seqSto .stp .rb) s

/-- `0xAB` `sto *StP = Rc` (rule R188). -/
def execStoAtStpRc (s : State) : Result := runFixed (seqSto .stp .rc) s

/-- `0xAC` `sto *StP = Rd` (rule R188). -/
def execStoAtStpRd (s : State) : Result := runFixed (seqSto .stp .rd) s

/-- `0xAD` `sto *StP = StP` (rule R188). -/
def execStoAtStpStp (s : State) : Result := runFixed (seqSto .stp .stp) s

/-- `0xAE` `pop StP` (rule R187). -/
def execPopStpSto (s : State) : Result := runFixed (seqPop .stp) s

/-- `0xAF` `sto *StP = Imm` (rule R188; a pseudo register, rule R269 (a)). -/
def execStoAtStpImm (s : State) : Result := runFixed (seqSto .stp .imm) s

/-- `0xB0` `call Rc` (rule R181). -/
def execCallRc (s : State) : Result := runFixed seqCall s

/-- `0xB1` `push Ra` (rule R182). -/
def execPushRa (s : State) : Result := runFixed (seqPush .ra) s

/-- `0xB2` `push Rb` (rule R182). -/
def execPushRb (s : State) : Result := runFixed (seqPush .rb) s

/-- `0xB3` `push Rc` (rule R182). -/
def execPushRc (s : State) : Result := runFixed (seqPush .rc) s

/-- `0xB4` `push Rd` (rule R182). -/
def execPushRd (s : State) : Result := runFixed (seqPush .rd) s

/-- `0xB5` `push StP` (rule R182). -/
def execPushStp (s : State) : Result := runFixed (seqPush .stp) s

/-- `0xB6` `push StPi` (rule R182; a pseudo register, rule R269 (a)). -/
def execPushStpi (s : State) : Result := runFixed (seqPush .stpi) s

/-- `0xB7` `pushi Imm` (rule R180). -/
def execPushi (s : State) : Result := runFixed seqPushi s

/-- `0xB9` `stoi Ra` (rule R185). -/
def execStoiRa (s : State) : Result := runFixed (seqStoi .ra) s

/-- `0xBA` `stoi Rb` (rule R185). -/
def execStoiRb (s : State) : Result := runFixed (seqStoi .rb) s

/-- `0xBB` `stoi Rc` (rule R185). -/
def execStoiRc (s : State) : Result := runFixed (seqStoi .rc) s

/-- `0xBC` `stoi Rd` (rule R185). -/
def execStoiRd (s : State) : Result := runFixed (seqStoi .rd) s

/-- `0xBD` `stoi StP` (rule R185). -/
def execStoiStp (s : State) : Result := runFixed (seqStoi .stp) s

/-- `0xBE` `stoi StPi` (rule R185; a pseudo register, rule R269 (a)). -/
def execStoiStpi (s : State) : Result := runFixed (seqStoi .stpi) s

end Sys2Proof.Machine
end

