-- ==== Sys2Proof/Machine/Rom.lean ====
section
/-! DEFINITION. The decoder ROM: the sequence of every opcode (rule R113), the total function from opcode, microtime and
flags to a signal set (rule R110), the microstep that looks it up, and the run of microsteps to the end of an
instruction. -/

namespace Sys2Proof.Machine

/-- `SEQ(op, f)` by form (rules R113, R130 to R207). `P` supplies the four OPEN sequences. -/
def seqOf (P : OpenSeqs) (form : Form) (f : Flags) : List SigSet :=
  match form with
  | .condJump c => seqCondJump c f
  | .clra => seqClra
  | .movi d => seqMovi d
  | .jmpi => seqJmpi
  | .jmz => seqJmz
  | .tst s => seqTst s
  | .mov d s => seqMov d s
  | .hlt => seqHlt
  | .undef => seqUndef
  | .nop => seqNop
  | .peek d => seqPeek d
  | .lccMem => seqLccMem
  | .lccPgm => P.lccPgm
  | .lcdPgm => seqLcdPgm
  | .ret => seqRet
  | .pop d => seqPop d
  | .lccImm => P.lccImm
  | .lodImm d => seqLodImm d
  | .lcdImm => seqLcdImm
  | .clr d => seqClr d
  | .lod d s => seqLod d s
  | .pushi => seqPushi
  | .call => seqCall
  | .push s => seqPush s
  | .calli => P.calli
  | .stoiImm => P.stoi
  | .stoi s => seqStoi s
  | .sto d s => seqSto d s
  | .inc r => seqInc r
  | .add r => seqAdd r
  | .sub r => seqSub r
  | .rsb r => seqRsb r
  | .cmpRegRb r => seqCmpRegRb r
  | .cmpRbReg r => seqCmpRbReg r
  | .lccReg r => seqLccReg r
  | .lcdReg r => seqLcdReg r

/-- `ROM(op, mt, f)` (rules R110 to R114). -/
def rom (P : OpenSeqs) (op : Byte) (mt : BitVec 3) (f : Flags) : SigSet :=
  if mt = 0#3 then fetch0
  else if mt = 1#3 then fetch1
  else ((seqOf P (formOf op) f)[mt.toNat - 2]?).getD filler

/-- One microstep of the machine, the `step()` of rule R271: the ROM's word for IR, the counter and the flags, committed
(rules R20 (a), R262), unless the machine is halted. At microtime 2 and later, an OPEN opcode without its parameter has no
word (rule R269 (f)). -/
def microstep (s : State) : Result :=
  if s.halted then .next s
  else if 2 ≤ s.mt.toNat ∧ s.lacks (formOf s.ir) = true then .fault .openUnsupplied
  else commit (rom s.romSeqs s.ir s.mt s.flags) s

/-- `run(n)`: up to `n` microsteps, stopping at the halt or a fault (rule R271). -/
def runFor : Nat → State → Result
  | 0, s => .next s
  | n + 1, s => if s.halted then .next s else andThen (microstep s) (runFor n)

/-- Microsteps until the counter is back at 0 or the machine is halted, at most `fuel`: the rest of an instruction
(rule R271). The counter has eight values, so eight microsteps always get there (rule R117). -/
def runMicro : Nat → State → Result
  | 0, s => .next s
  | fuel + 1, s => andThen (microstep s) fun t => if t.mt = 0#3 ∨ t.halted = true then .next t else runMicro fuel t

end Sys2Proof.Machine
end

