-- ==== Sys2Proof/Machine/Open.lean ====
section
/-! DEFINITION. The four OPEN opcodes (rules R153, R157, R183, R184): the run of the words that the ROM holds from
microtime 2 on, in which a step may latch IR anew, and the meanings. -/

namespace Sys2Proof.Machine

/-- Runs the ROM's words for an opcode's form from the `k`-th of them on, at most `fuel`. The ROM reads IR at every
microstep, so after a step with `_IRW` it goes on with the words of the opcode latched there, at the next microtime (rules
R21, R113, R330). A form whose parameter is not supplied has no words (rule R269 (f)). -/
def runRom : Nat → Nat → Form → State → Result
  | 0, _, _, s => .next s
  | fuel + 1, k, form, s =>
    if s.lacks form then .fault .openUnsupplied
    else
      let S := ((seqOf s.romSeqs form s.flags)[k]?).getD filler
      andThen (commit S s) fun t =>
        if endsRun S then .next t else runRom fuel (k + 1) (if S.contains .irw then formOf t.ir else form) t

/-- An OPEN instruction runs its parameter's microsteps, and faults without one (rules R153, R157, R183, R184, R269 (f));
microtimes 2 to 7 hold six microsteps at most. -/
def runOpen (f : Form) (s : State) : Result := runRom 6 0 f s

/-- `0x76` `lcc pgm`: the microsteps of `SEQ_LCC_PGM` (rules R153, R269 (f); log 5, log 6). -/
def execLccPgm (s : State) : Result := runOpen .lccPgm s

/-- `0x7E` `lcc imm`: the microsteps of `SEQ_LCC_IMM` (rules R157, R269 (f); log 5). -/
def execLccImm (s : State) : Result := runOpen .lccImm s

/-- `0xB8` `calli Imm`: the microsteps of `SEQ_CALLI` (rules R183, R269 (f); log 5, log 7). -/
def execCalli (s : State) : Result := runOpen .calli s

/-- `0xBF` `stoi Imm, Imm`: the microsteps of `SEQ_STOI` (rules R184, R269 (f); log 5). -/
def execStoiImmImm (s : State) : Result := runOpen .stoiImm s

end Sys2Proof.Machine
end

