-- ==== Sys2Proof/Machine/Dispatch.lean ====
section
/-! DEFINITION. The dispatch of the instructions: one arm per constructor, each one direct call of its meaning. -/
namespace Sys2Proof.Machine
open Sys2Proof

def exec (i : Instr) (s : State) : Host.Outcome State Fault Refusal :=
  match i with
  -- the LCD command port, 45_lcd.md
  | .lcdSetDramAddr arg => Sys2Proof.Machine.execLcdSetDramAddr arg s
  | .lcdSetCgramAddr arg => Sys2Proof.Machine.execLcdSetCgramAddr arg s
  | .lcdFunctionSet arg => Sys2Proof.Machine.execLcdFunctionSet arg s
  | .lcdShift arg => Sys2Proof.Machine.execLcdShift arg s
  | .lcdDisplay arg => Sys2Proof.Machine.execLcdDisplay arg s
  | .lcdEntryMode arg => Sys2Proof.Machine.execLcdEntryMode arg s
  | .lcdHome arg => Sys2Proof.Machine.execLcdHome arg s
  | .lcdClear => Sys2Proof.Machine.execLcdClear s
  | .lcdNoCommand => Sys2Proof.Machine.execLcdNoCommand s
  -- the MOV group
  | .hlt => Sys2Proof.Machine.execHlt s
  | .jmpRa => Sys2Proof.Machine.execJmpRa s
  | .jmpRb => Sys2Proof.Machine.execJmpRb s
  | .jmpRc => Sys2Proof.Machine.execJmpRc s
  | .jmpRd => Sys2Proof.Machine.execJmpRd s
  | .jmpStp => Sys2Proof.Machine.execJmpStp s
  | .jmpStpi => Sys2Proof.Machine.execJmpStpi s
  | .jmpi => Sys2Proof.Machine.execJmpi s
  | .movRaPc => Sys2Proof.Machine.execMovRaPc s
  | .nop => Sys2Proof.Machine.execNop s
  | .movRaRb => Sys2Proof.Machine.execMovRaRb s
  | .movRaRc => Sys2Proof.Machine.execMovRaRc s
  | .movRaRd => Sys2Proof.Machine.execMovRaRd s
  | .movRaStp => Sys2Proof.Machine.execMovRaStp s
  | .movRaStpi => Sys2Proof.Machine.execMovRaStpi s
  | .moviRa => Sys2Proof.Machine.execMoviRa s
  | .movRbPc => Sys2Proof.Machine.execMovRbPc s
  | .movRbRa => Sys2Proof.Machine.execMovRbRa s
  | .undefined12 => Sys2Proof.Machine.execUndefined12 s
  | .movRbRc => Sys2Proof.Machine.execMovRbRc s
  | .movRbRd => Sys2Proof.Machine.execMovRbRd s
  | .movRbStp => Sys2Proof.Machine.execMovRbStp s
  | .movRbStpi => Sys2Proof.Machine.execMovRbStpi s
  | .moviRb => Sys2Proof.Machine.execMoviRb s
  | .movRcPc => Sys2Proof.Machine.execMovRcPc s
  | .movRcRa => Sys2Proof.Machine.execMovRcRa s
  | .movRcRb => Sys2Proof.Machine.execMovRcRb s
  | .undefined1B => Sys2Proof.Machine.execUndefined1B s
  | .movRcRd => Sys2Proof.Machine.execMovRcRd s
  | .movRcStp => Sys2Proof.Machine.execMovRcStp s
  | .movRcStpi => Sys2Proof.Machine.execMovRcStpi s
  | .moviRc => Sys2Proof.Machine.execMoviRc s
  | .movRdPc => Sys2Proof.Machine.execMovRdPc s
  | .movRdRa => Sys2Proof.Machine.execMovRdRa s
  | .movRdRb => Sys2Proof.Machine.execMovRdRb s
  | .movRdRc => Sys2Proof.Machine.execMovRdRc s
  | .undefined24 => Sys2Proof.Machine.execUndefined24 s
  | .movRdStp => Sys2Proof.Machine.execMovRdStp s
  | .movRdStpi => Sys2Proof.Machine.execMovRdStpi s
  | .moviRd => Sys2Proof.Machine.execMoviRd s
  | .movStpPc => Sys2Proof.Machine.execMovStpPc s
  | .movStpRa => Sys2Proof.Machine.execMovStpRa s
  | .movStpRb => Sys2Proof.Machine.execMovStpRb s
  | .movStpRc => Sys2Proof.Machine.execMovStpRc s
  | .movStpRd => Sys2Proof.Machine.execMovStpRd s
  | .undefined2D => Sys2Proof.Machine.execUndefined2D s
  | .movStpStpi => Sys2Proof.Machine.execMovStpStpi s
  | .moviStp => Sys2Proof.Machine.execMoviStp s
  | .jmz => Sys2Proof.Machine.execJmz s
  | .tstRa => Sys2Proof.Machine.execTstRa s
  | .tstRb => Sys2Proof.Machine.execTstRb s
  | .tstRc => Sys2Proof.Machine.execTstRc s
  | .tstRd => Sys2Proof.Machine.execTstRd s
  | .tstStp => Sys2Proof.Machine.execTstStp s
  | .undefined36 => Sys2Proof.Machine.execUndefined36 s
  | .clra => Sys2Proof.Machine.execClra s
  | .jc => Sys2Proof.Machine.execJc s
  | .jz => Sys2Proof.Machine.execJz s
  | .jo => Sys2Proof.Machine.execJo s
  | .jnn => Sys2Proof.Machine.execJnn s
  | .jn => Sys2Proof.Machine.execJn s
  | .jno => Sys2Proof.Machine.execJno s
  | .jnz => Sys2Proof.Machine.execJnz s
  | .jnc => Sys2Proof.Machine.execJnc s
  -- the LOD group
  | .lodPcAtPc => Sys2Proof.Machine.execLodPcAtPc s
  | .lodPcAtRa => Sys2Proof.Machine.execLodPcAtRa s
  | .lodPcAtRb => Sys2Proof.Machine.execLodPcAtRb s
  | .lodPcPgmRc => Sys2Proof.Machine.execLodPcPgmRc s
  | .lodPcAtRd => Sys2Proof.Machine.execLodPcAtRd s
  | .lodPcAtStp => Sys2Proof.Machine.execLodPcAtStp s
  | .ret => Sys2Proof.Machine.execRet s
  | .lodPcAtImm => Sys2Proof.Machine.execLodPcAtImm s
  | .lodRaAtPc => Sys2Proof.Machine.execLodRaAtPc s
  | .lodRaAtRa => Sys2Proof.Machine.execLodRaAtRa s
  | .lodRaAtRb => Sys2Proof.Machine.execLodRaAtRb s
  | .lodRaPgmRc => Sys2Proof.Machine.execLodRaPgmRc s
  | .lodRaAtRd => Sys2Proof.Machine.execLodRaAtRd s
  | .lodRaAtStp => Sys2Proof.Machine.execLodRaAtStp s
  | .popRa => Sys2Proof.Machine.execPopRa s
  | .lodRaAtImm => Sys2Proof.Machine.execLodRaAtImm s
  | .lodRbAtPc => Sys2Proof.Machine.execLodRbAtPc s
  | .lodRbAtRa => Sys2Proof.Machine.execLodRbAtRa s
  | .lodRbAtRb => Sys2Proof.Machine.execLodRbAtRb s
  | .lodRbPgmRc => Sys2Proof.Machine.execLodRbPgmRc s
  | .lodRbAtRd => Sys2Proof.Machine.execLodRbAtRd s
  | .lodRbAtStp => Sys2Proof.Machine.execLodRbAtStp s
  | .popRb => Sys2Proof.Machine.execPopRb s
  | .lodRbAtImm => Sys2Proof.Machine.execLodRbAtImm s
  | .lodRcAtPc => Sys2Proof.Machine.execLodRcAtPc s
  | .lodRcAtRa => Sys2Proof.Machine.execLodRcAtRa s
  | .lodRcAtRb => Sys2Proof.Machine.execLodRcAtRb s
  | .lodRcPgmRc => Sys2Proof.Machine.execLodRcPgmRc s
  | .lodRcAtRd => Sys2Proof.Machine.execLodRcAtRd s
  | .lodRcAtStp => Sys2Proof.Machine.execLodRcAtStp s
  | .popRc => Sys2Proof.Machine.execPopRc s
  | .lodRcAtImm => Sys2Proof.Machine.execLodRcAtImm s
  | .lodRdAtPc => Sys2Proof.Machine.execLodRdAtPc s
  | .lodRdAtRa => Sys2Proof.Machine.execLodRdAtRa s
  | .lodRdAtRb => Sys2Proof.Machine.execLodRdAtRb s
  | .lodRdPgmRc => Sys2Proof.Machine.execLodRdPgmRc s
  | .lodRdAtRd => Sys2Proof.Machine.execLodRdAtRd s
  | .lodRdAtStp => Sys2Proof.Machine.execLodRdAtStp s
  | .popRd => Sys2Proof.Machine.execPopRd s
  | .lodRdAtImm => Sys2Proof.Machine.execLodRdAtImm s
  | .lodStpAtPc => Sys2Proof.Machine.execLodStpAtPc s
  | .lodStpAtRa => Sys2Proof.Machine.execLodStpAtRa s
  | .lodStpAtRb => Sys2Proof.Machine.execLodStpAtRb s
  | .lodStpPgmRc => Sys2Proof.Machine.execLodStpPgmRc s
  | .lodStpAtRd => Sys2Proof.Machine.execLodStpAtRd s
  | .lodStpAtStp => Sys2Proof.Machine.execLodStpAtStp s
  | .popStp => Sys2Proof.Machine.execPopStp s
  | .lodStpAtImm => Sys2Proof.Machine.execLodStpAtImm s
  | .peekPc => Sys2Proof.Machine.execPeekPc s
  | .peekRa => Sys2Proof.Machine.execPeekRa s
  | .peekRb => Sys2Proof.Machine.execPeekRb s
  | .peekRc => Sys2Proof.Machine.execPeekRc s
  | .peekRd => Sys2Proof.Machine.execPeekRd s
  | .lccMem => Sys2Proof.Machine.execLccMem s
  | .lccPgm => Sys2Proof.Machine.execLccPgm s
  | .lcdPgm => Sys2Proof.Machine.execLcdPgm s
  | .clrPc => Sys2Proof.Machine.execClrPc s
  | .clrRa => Sys2Proof.Machine.execClrRa s
  | .clrRb => Sys2Proof.Machine.execClrRb s
  | .clrRc => Sys2Proof.Machine.execClrRc s
  | .clrRd => Sys2Proof.Machine.execClrRd s
  | .clrStp => Sys2Proof.Machine.execClrStp s
  | .lccImm => Sys2Proof.Machine.execLccImm s
  | .lcdImm => Sys2Proof.Machine.execLcdImm s
  -- the STO group
  | .stoAtPcPc => Sys2Proof.Machine.execStoAtPcPc s
  | .stoAtPcRa => Sys2Proof.Machine.execStoAtPcRa s
  | .stoAtPcRb => Sys2Proof.Machine.execStoAtPcRb s
  | .stoAtPcRc => Sys2Proof.Machine.execStoAtPcRc s
  | .stoAtPcRd => Sys2Proof.Machine.execStoAtPcRd s
  | .stoAtPcStp => Sys2Proof.Machine.execStoAtPcStp s
  | .retSto => Sys2Proof.Machine.execRetSto s
  | .stoAtPcImm => Sys2Proof.Machine.execStoAtPcImm s
  | .stoAtRaPc => Sys2Proof.Machine.execStoAtRaPc s
  | .stoAtRaRa => Sys2Proof.Machine.execStoAtRaRa s
  | .stoAtRaRb => Sys2Proof.Machine.execStoAtRaRb s
  | .stoAtRaRc => Sys2Proof.Machine.execStoAtRaRc s
  | .stoAtRaRd => Sys2Proof.Machine.execStoAtRaRd s
  | .stoAtRaStp => Sys2Proof.Machine.execStoAtRaStp s
  | .popRaSto => Sys2Proof.Machine.execPopRaSto s
  | .stoAtRaImm => Sys2Proof.Machine.execStoAtRaImm s
  | .stoAtRbPc => Sys2Proof.Machine.execStoAtRbPc s
  | .stoAtRbRa => Sys2Proof.Machine.execStoAtRbRa s
  | .stoAtRbRb => Sys2Proof.Machine.execStoAtRbRb s
  | .stoAtRbRc => Sys2Proof.Machine.execStoAtRbRc s
  | .stoAtRbRd => Sys2Proof.Machine.execStoAtRbRd s
  | .stoAtRbStp => Sys2Proof.Machine.execStoAtRbStp s
  | .popRbSto => Sys2Proof.Machine.execPopRbSto s
  | .stoAtRbImm => Sys2Proof.Machine.execStoAtRbImm s
  | .stoPgmRcPc => Sys2Proof.Machine.execStoPgmRcPc s
  | .stoPgmRcRa => Sys2Proof.Machine.execStoPgmRcRa s
  | .stoPgmRcRb => Sys2Proof.Machine.execStoPgmRcRb s
  | .stoPgmRcRc => Sys2Proof.Machine.execStoPgmRcRc s
  | .stoPgmRcRd => Sys2Proof.Machine.execStoPgmRcRd s
  | .stoPgmRcStp => Sys2Proof.Machine.execStoPgmRcStp s
  | .popRcSto => Sys2Proof.Machine.execPopRcSto s
  | .stoPgmRcImm => Sys2Proof.Machine.execStoPgmRcImm s
  | .stoAtRdPc => Sys2Proof.Machine.execStoAtRdPc s
  | .stoAtRdRa => Sys2Proof.Machine.execStoAtRdRa s
  | .stoAtRdRb => Sys2Proof.Machine.execStoAtRdRb s
  | .stoAtRdRc => Sys2Proof.Machine.execStoAtRdRc s
  | .stoAtRdRd => Sys2Proof.Machine.execStoAtRdRd s
  | .stoAtRdStp => Sys2Proof.Machine.execStoAtRdStp s
  | .popRdSto => Sys2Proof.Machine.execPopRdSto s
  | .stoAtRdImm => Sys2Proof.Machine.execStoAtRdImm s
  | .stoAtStpPc => Sys2Proof.Machine.execStoAtStpPc s
  | .stoAtStpRa => Sys2Proof.Machine.execStoAtStpRa s
  | .stoAtStpRb => Sys2Proof.Machine.execStoAtStpRb s
  | .stoAtStpRc => Sys2Proof.Machine.execStoAtStpRc s
  | .stoAtStpRd => Sys2Proof.Machine.execStoAtStpRd s
  | .stoAtStpStp => Sys2Proof.Machine.execStoAtStpStp s
  | .popStpSto => Sys2Proof.Machine.execPopStpSto s
  | .stoAtStpImm => Sys2Proof.Machine.execStoAtStpImm s
  | .callRc => Sys2Proof.Machine.execCallRc s
  | .pushRa => Sys2Proof.Machine.execPushRa s
  | .pushRb => Sys2Proof.Machine.execPushRb s
  | .pushRc => Sys2Proof.Machine.execPushRc s
  | .pushRd => Sys2Proof.Machine.execPushRd s
  | .pushStp => Sys2Proof.Machine.execPushStp s
  | .pushStpi => Sys2Proof.Machine.execPushStpi s
  | .pushi => Sys2Proof.Machine.execPushi s
  | .calli => Sys2Proof.Machine.execCalli s
  | .stoiRa => Sys2Proof.Machine.execStoiRa s
  | .stoiRb => Sys2Proof.Machine.execStoiRb s
  | .stoiRc => Sys2Proof.Machine.execStoiRc s
  | .stoiRd => Sys2Proof.Machine.execStoiRd s
  | .stoiStp => Sys2Proof.Machine.execStoiStp s
  | .stoiStpi => Sys2Proof.Machine.execStoiStpi s
  | .stoiImmImm => Sys2Proof.Machine.execStoiImmImm s
  -- the ALU group
  | .incPc => Sys2Proof.Machine.execIncPc s
  | .incRa => Sys2Proof.Machine.execIncRa s
  | .incRb => Sys2Proof.Machine.execIncRb s
  | .incRc => Sys2Proof.Machine.execIncRc s
  | .incRd => Sys2Proof.Machine.execIncRd s
  | .incStp => Sys2Proof.Machine.execIncStp s
  | .incStpi => Sys2Proof.Machine.execIncStpi s
  | .incImm => Sys2Proof.Machine.execIncImm s
  | .addPc => Sys2Proof.Machine.execAddPc s
  | .addRa => Sys2Proof.Machine.execAddRa s
  | .addRb => Sys2Proof.Machine.execAddRb s
  | .addRc => Sys2Proof.Machine.execAddRc s
  | .addRd => Sys2Proof.Machine.execAddRd s
  | .addStp => Sys2Proof.Machine.execAddStp s
  | .addStpi => Sys2Proof.Machine.execAddStpi s
  | .addImm => Sys2Proof.Machine.execAddImm s
  | .subPc => Sys2Proof.Machine.execSubPc s
  | .subRa => Sys2Proof.Machine.execSubRa s
  | .subRb => Sys2Proof.Machine.execSubRb s
  | .subRc => Sys2Proof.Machine.execSubRc s
  | .subRd => Sys2Proof.Machine.execSubRd s
  | .subStp => Sys2Proof.Machine.execSubStp s
  | .subStpi => Sys2Proof.Machine.execSubStpi s
  | .subImm => Sys2Proof.Machine.execSubImm s
  | .rsbPc => Sys2Proof.Machine.execRsbPc s
  | .rsbRa => Sys2Proof.Machine.execRsbRa s
  | .rsbRb => Sys2Proof.Machine.execRsbRb s
  | .rsbRc => Sys2Proof.Machine.execRsbRc s
  | .rsbRd => Sys2Proof.Machine.execRsbRd s
  | .rsbStp => Sys2Proof.Machine.execRsbStp s
  | .rsbStpi => Sys2Proof.Machine.execRsbStpi s
  | .rsbImm => Sys2Proof.Machine.execRsbImm s
  | .cmpPcRb => Sys2Proof.Machine.execCmpPcRb s
  | .cmpRaRb => Sys2Proof.Machine.execCmpRaRb s
  | .cmpRbRb => Sys2Proof.Machine.execCmpRbRb s
  | .cmpRcRb => Sys2Proof.Machine.execCmpRcRb s
  | .cmpRdRb => Sys2Proof.Machine.execCmpRdRb s
  | .cmpStpRb => Sys2Proof.Machine.execCmpStpRb s
  | .cmpStpiRb => Sys2Proof.Machine.execCmpStpiRb s
  | .cmpImmRb => Sys2Proof.Machine.execCmpImmRb s
  | .cmpRbPc => Sys2Proof.Machine.execCmpRbPc s
  | .cmpRbRa => Sys2Proof.Machine.execCmpRbRa s
  | .cmpRbRbRev => Sys2Proof.Machine.execCmpRbRbRev s
  | .cmpRbRc => Sys2Proof.Machine.execCmpRbRc s
  | .cmpRbRd => Sys2Proof.Machine.execCmpRbRd s
  | .cmpRbStp => Sys2Proof.Machine.execCmpRbStp s
  | .cmpRbStpi => Sys2Proof.Machine.execCmpRbStpi s
  | .cmpRbImm => Sys2Proof.Machine.execCmpRbImm s
  | .lccRegPc => Sys2Proof.Machine.execLccRegPc s
  | .lccRegRa => Sys2Proof.Machine.execLccRegRa s
  | .lccRegRb => Sys2Proof.Machine.execLccRegRb s
  | .lccRegRc => Sys2Proof.Machine.execLccRegRc s
  | .lccRegRd => Sys2Proof.Machine.execLccRegRd s
  | .lccRegStp => Sys2Proof.Machine.execLccRegStp s
  | .lccRegStpi => Sys2Proof.Machine.execLccRegStpi s
  | .lccRegImm => Sys2Proof.Machine.execLccRegImm s
  | .lcdRegPc => Sys2Proof.Machine.execLcdRegPc s
  | .lcdRegRa => Sys2Proof.Machine.execLcdRegRa s
  | .lcdRegRb => Sys2Proof.Machine.execLcdRegRb s
  | .lcdRegRc => Sys2Proof.Machine.execLcdRegRc s
  | .lcdRegRd => Sys2Proof.Machine.execLcdRegRd s
  | .lcdRegStp => Sys2Proof.Machine.execLcdRegStp s
  | .lcdRegStpi => Sys2Proof.Machine.execLcdRegStpi s
  | .lcdRegImm => Sys2Proof.Machine.execLcdRegImm s
end Sys2Proof.Machine
end

