-- ==== Sys2Proof/Machine/Inputs.lean ====
section
/-! DEFINITION. The host's moves (rules R220, R338): what one entry of the queue `ops` does to the machine, and when the
host has it. A byte on the LCD's command port is decoded to its command class and run as that instruction. -/

namespace Sys2Proof.Machine

/-- A move that the host has outside a run only: before reset, by rule R338's table and its last sentence (log 12). -/
def outsideRun (s : State) (r : Result) : Result := if s.running then .refused .duringRun else r

/-- Performs one move of the host. -/
def hostMove (op : HostOp) (s : State) : Result :=
  match op with
  | .supplyOpen seqs => outsideRun s (.next { s with openSeqs := seqs })
  | .loadProgram bytes => outsideRun s (.next { s with pmem := Memory.load s.pmem 0#8 bytes })
  | .loadData bytes => outsideRun s (.next { s with dmem := Memory.load s.dmem 0#8 bytes })
  | .lcdNew width height =>
    outsideRun s
      (match Lcd.new? width height with
       | some l => .next (s.setLcd l)
       | none => .refused .lcdConstruction)
  | .lcdCommand b => outsideRun s (exec (decodeCommand b) s)
  | .lcdData b => outsideRun s (.next (s.setLcd (s.lcd.writeByte b)))
  | .lcdText bytes => outsideRun s (.next (s.setLcd (s.lcd.writeString bytes)))
  | .lcdUpdatePixels => .next (s.setLcd s.lcd.updatePixels)
  | .resume => resume s
  | .reset => .next (hostReset s)

end Sys2Proof.Machine
end

