-- ==== Sys2Proof/Machine/Step.lean ====
section
/-! DEFINITION. One step of the machine: the host's first waiting move, or else the processor up to its next instruction
boundary. -/

namespace Sys2Proof.Machine

/-- One step (log 1, log 2, log 12). A waiting move of the host goes first. A machine that is halted, or that no reset has
put in a run, stays as it is (rules R271, R304, R338). At microtimes 0 to 2 the step fetches what is left to fetch and
runs the instruction that IR then holds, read at microtime 2 (rule R330). Later in an instruction it goes on with the
ROM's microsteps to the instruction's end. -/
def step (s : State) : Host.Outcome State Fault Refusal :=
  match s.ops with
  | op :: rest => hostMove op { s with ops := rest }
  | [] =>
    if s.halted || !s.running then .next s
    else if s.mt.toNat ≤ 2 then andThen (fetch s) fun t => exec (decodeOpcode t.ir) t
    else runMicro 8 s

/-- The state with an instruction word placed where the next step fetches: the bytes of `w` and then zero operand bytes
at the PC in program memory, the machine in a run at an instruction boundary with no host move waiting. -/
def State.withFetchWord (s : State) (nbits w : Nat) : State :=
  { placeBytes s s.pc (tableBytes nbits w) with mt := 0#3, halted := false, ops := [], running := true }

end Sys2Proof.Machine
end

