-- ==== Sys2Proof/Machine/ControlWord.lean ====
section
/-! DEFINITION. The 32-bit control word of a signal set under a layout (rules R82 to R89), and the ROM's image: its
15-bit addresses (rule R50), its four byte-wide banks (rule R52) and the images' bytes in address order (rule R119). -/

namespace Sys2Proof.Machine

/-- The word with one bit set: `1 << p` (rule R85). -/
def bitMask (p : Nat) : BitVec 32 := 1#32 <<< p

/-- A 3-bit code in the field at `offset` (rules R82, R83). -/
def fieldMask (c : BitVec 3) (offset : Nat) : BitVec 32 := (c.setWidth 32) <<< offset

/-- `MASK_BW_MEM` or `MASK_BW_ALU` (rule R86). -/
def busMask (L : Layout) : BusMask → BitVec 32
  | .bit p => bitMask p
  | .code c => fieldMask c L.wOffset

/-- The bit position of a one-bit signal, `BIT(s)` (rule R85); none for the signals that lie in a field or have a mask of
their own. -/
def bitOf (L : Layout) : Signal → Option Nat
  | .maw => some L.maw
  | .irw => some L.irw
  | .stpw => some L.stpw
  | .alb => some L.alb
  | .alc => some L.alc
  | .alw => some L.alw
  | .mw => some L.mw
  | .lcd => some L.lcd
  | .lcdCommand => some L.lcdCommand
  | .lcdData => some L.lcdData
  | .pgm => some L.pgm
  | .pcc => some L.pcc
  | .hlt => some L.hlt
  | .tr => some L.tr
  | .w _ | .bwMem | .bwAlu | .r _ | .alu _ => none

/-- `mask(s)` (rules R82, R83, R85, R86). -/
def maskOf (L : Layout) (g : Signal) : BitVec 32 :=
  match g with
  | .w r => fieldMask r.code L.wOffset
  | .r r => fieldMask r.code L.rOffset
  | .alu m => fieldMask m.code L.aluOffset
  | .bwMem => busMask L L.bwMem
  | .bwAlu => busMask L L.bwAlu
  | .maw | .irw | .stpw | .alb | .alc | .alw | .mw | .lcd | .lcdCommand | .lcdData | .pgm | .pcc | .hlt | .tr =>
    match bitOf L g with
    | some p => bitMask p
    | none => 0#32

/-- `encode(S)`: the bitwise OR of the members' masks (rule R87). -/
def encodeSet (L : Layout) (S : SigSet) : BitVec 32 := S.foldr (fun g word => maskOf L g ||| word) 0#32

/-- The ROM address of an opcode, a microtime and the flags: mt in bits 2..0, op in 10..3, C, Z, O, N in 11 to 14
(rule R50, decision D1). -/
def romAddress (op : Byte) (mt : BitVec 3) (f : Flags) : BitVec 15 :=
  BitVec.ofBool f.n ++ BitVec.ofBool f.o ++ BitVec.ofBool f.z ++ BitVec.ofBool f.c ++ op ++ mt

/-- The opcode of a ROM address. -/
def addressOp (a : BitVec 15) : Byte := a.extractLsb' 3 8

/-- The microtime of a ROM address. -/
def addressMt (a : BitVec 15) : BitVec 3 := a.extractLsb' 0 3

/-- The flags of a ROM address (decision D1). -/
def addressFlags (a : BitVec 15) : Flags :=
  { c := a.getLsbD 11, z := a.getLsbD 12, o := a.getLsbD 13, n := a.getLsbD 14 }

/-- The signal set the ROM holds at an address (rule R110). -/
def romSet (P : OpenSeqs) (a : BitVec 15) : SigSet := rom P (addressOp a) (addressMt a) (addressFlags a)

/-- `ROMWORD(addr)`: the word stored at an address, uninverted (rules R50, R51, R89). -/
def romWord (L : Layout) (P : OpenSeqs) (a : BitVec 15) : BitVec 32 := encodeSet L (romSet P a)

/-- The physical word, with the lines `invert` (`OUTPUT_INVERT`, default 0) inverted (rule R89, decision D23). -/
def physicalWord (L : Layout) (P : OpenSeqs) (a : BitVec 15) (invert : BitVec 32 := 0#32) : BitVec 32 :=
  romWord L P a ^^^ invert

/-- `BANK_k(addr)`: byte k of the word (rule R52, decision D22). -/
def bank (L : Layout) (P : OpenSeqs) (k : Fin 4) (a : BitVec 15) : Byte := (romWord L P a).extractLsb' (8 * k.val) 8

/-- The image of a bank: its bytes in increasing address order, byte at address `a` at offset `a` (rules R52, R119). -/
def bankImage (L : Layout) (P : OpenSeqs) (k : Fin 4) : List Byte :=
  (List.range (2 ^ 15)).map fun a => bank L P k (BitVec.ofNat 15 a)

end Sys2Proof.Machine
end

