-- ==== Sys2Proof/Safety.lean ====
section
/-! DEFINITION. What claims about runs are stated in: the invariant that reset meets and every step keeps, the
instruction boundary, the admissible OPEN sequences, and what each form of instruction may change. -/

namespace Sys2Proof.Machine

/-- The invariant: both memories in canonical form with every address below 256 (rule R266), and the LCD device as
construction and every operation leave it (rules R32, R224, R240). -/
def State.inv (s : State) : Bool := Memory.wf 256 s.pmem && Memory.wf 256 s.dmem && s.lcd.inv

/-- The processor stands between two instructions, or it is halted (rules R118, R304). -/
def State.atBoundary (s : State) : Bool := s.mt == 0#3 || s.halted

/-- Two states that agree but for what rules R157 and R184 let an OPEN instruction change besides its effect: Acc, MAR, the
flags and the counter. -/
def State.agreeBeyondOpen (s t : State) : Prop :=
  t = { s with acc := t.acc, mar := t.mar, flags := t.flags, mt := t.mt }

/-! ### Sequences of microsteps -/

/-- No step of the sequence has a harness fault (rule R269 (a) to (e)). -/
def seqFaultless (q : List SigSet) : Bool := q.all fun S => (faultOf S).isNone

/-- The state after the steps of a sequence, where none of them faults. -/
def afterSteps (q : List SigSet) (s : State) : State := q.foldl (fun s S => applySet S s) s

/-- The ROM emits the sequence step by step from `s`: a step with `_IRW` before the last one latches an opcode of the form
`f` again (rules R21, R113). -/
def keepsOpcode (f : Form) : List SigSet → State → Bool
  | [], _ => true
  | S :: rest, s =>
    (rest.isEmpty || !S.contains .irw || decide (formOf (applySet S s).ir = f)) && keepsOpcode f rest (applySet S s)

/-! ### What the OPEN sequences must do (decisions D17 to D20) -/

/-- The machine at microtime 2 of the opcode `op`: fetch has brought it from the address in MAR to IR (rules R111, R112). -/
def afterFetch (op : Byte) (s : State) : Prop :=
  s.mt = 2#3 ∧ s.ir = op ∧ s.pc = s.mar + 1#8 ∧ s.load true s.mar = op ∧ s.halted = false

/-- The effect of `lcc imm` from `s` to `t` (rule R157). -/
def lccImmEffect (s t : State) : Prop :=
  State.agreeBeyondOpen ((s.setLcd (s.lcd.sendCommand (s.load true s.pc))).setReg .pc (s.pc + 1#8)) t

/-- The effect of `calli` from `s` to `t` (rule R183), which names StP, the stored byte and the PC and nothing else. The
return address is `p + 1` when `next` is true, else `p`. -/
def calliEffect (next : Bool) (s t : State) : Prop :=
  t.stp = s.stp - 1#8 ∧ t.load false (s.stp - 1#8) = (if next then s.pc + 1#8 else s.pc) ∧ t.pc = s.load true s.pc

/-- The effect of `stoi Imm, Imm` from `s` to `t` (rule R184). -/
def stoiEffect (s t : State) : Prop :=
  State.agreeBeyondOpen ((s.store true (s.load true s.pc) (s.load true (s.pc + 1#8))).setReg .pc (s.pc + 2#8)) t

/-- The effect of `lcc pgm` from `s` to `t` (rule R153): the LCD gets a program byte as a command, read from the state `u` at
one of the instruction's microsteps. The rule says nothing of the rest of the state. -/
def lccPgmEffect (s t : State) : Prop :=
  ∃ (k : Nat) (u : State) (x : Byte), runFor k s = .next u ∧ u.mt.toNat = 2 + k ∧
    t.lcd = s.lcd.sendCommand (u.load true x)

/-- The opcode `op` of the form `f`, with the sequence supplied, has the effect wherever its fetch ends. -/
def hasEffect (f : Form) (op : Byte) (effect : State → State → Prop) (q : List SigSet) : Prop :=
  ∀ s, afterFetch op s → s.openSeq f = some q → ∃ t, runOpen f s = .next t ∧ effect s t

/-- The values of `SEQ_LCC_IMM` (rule R157, decision D17). -/
def lccImmAdmissible (q : List SigSet) : Prop :=
  lccImmShape q = true ∧ hasEffect .lccImm 0x7E#8 lccImmEffect q

/-- The values of `SEQ_LCC_PGM` (rule R153, decision D18). -/
def lccPgmAdmissible (q : List SigSet) : Prop :=
  lccPgmShape q = true ∧ hasEffect .lccPgm 0x76#8 lccPgmEffect q

/-- The values of `SEQ_CALLI` with the return address that `next` chooses (rule R183, decision D19). -/
def calliAdmissible (next : Bool) (q : List SigSet) : Prop :=
  calliShape q = true ∧ hasEffect .calli 0xB8#8 (calliEffect next) q

/-- The values of `SEQ_STOI` (rule R184, decision D20). The datapath of the harness has none (log 5). -/
def stoiAdmissible (q : List SigSet) : Prop :=
  stoiShape q = true ∧ hasEffect .stoiImm 0xBF#8 stoiEffect q

/-- A sequence of the shape of `SEQ_STOI` that has the effect of rule R184 wherever Acc holds the address of the value
byte. -/
def stoiFromAcc : List SigSet :=
  [[.bwAlu, .maw], [.pgm, .bwMem, .alu .aPlusB, .alw], [.w .pc, .maw, .pcc], [.pgm, .bwMem, .pcc, .maw],
    [.bwAlu, .pgm, .mw, .tr]]

end Sys2Proof.Machine

namespace Sys2Proof

/-! ### What a form may change

What an OPEN form changes besides its rule's effect depends on the sequence that is supplied for it, so the frames of
those forms are stated over the sequence's signals. -/

/-- The registers a form writes besides the PC: its destination, and StP where the form moves the stack (rules R130 to
R207). -/
def Form.destinations : Form → List Reg
  | .clra => [.ra, .rb, .rc, .rd, .stp]
  | .movi d | .mov d _ | .peek d | .lodImm d | .clr d | .lod d _ | .inc d | .add d | .sub d | .rsb d => [d]
  | .pop d => [d, .stp]
  | .ret | .pushi | .call | .push _ | .calli => [.stp]
  | .condJump _ | .jmpi | .jmz | .tst _ | .hlt | .undef | .nop | .lccMem | .lccPgm | .lcdPgm | .lccImm | .lcdImm
  | .stoiImm | .stoi _ | .sto _ _ | .cmpRegRb _ | .cmpRbReg _ | .lccReg _ | .lcdReg _ => []

/-- The forms with an `_ALW` step, which write Acc and the flags (rules R264, R265). The four OPEN forms count among them:
their parameter may hold such a step (rules R153, R157, R183, R184). -/
def Form.latchesAlu : Form → Bool
  | .clra | .jmz | .tst _ | .ret | .pop _ | .clr _ | .pushi | .call | .push _ | .inc _ | .add _ | .sub _ | .rsb _
  | .cmpRegRb _ | .cmpRbReg _ | .lccPgm | .lccImm | .calli | .stoiImm => true
  | .condJump _ | .movi _ | .jmpi | .mov _ _ | .hlt | .undef | .nop | .peek _ | .lccMem | .lcdPgm | .lodImm _ | .lcdImm
  | .lod _ _ | .stoi _ | .sto _ _ | .lccReg _ | .lcdReg _ => false

/-- The forms with an `LCD` step (rules R151, R153, R154, R157, R159, R206, R207). -/
def Form.strobesLcd : Form → Bool
  | .lccMem | .lccPgm | .lcdPgm | .lccImm | .lcdImm | .lccReg _ | .lcdReg _ => true
  | .condJump _ | .clra | .movi _ | .jmpi | .jmz | .tst _ | .mov _ _ | .hlt | .undef | .nop | .peek _ | .ret | .pop _
  | .lodImm _ | .clr _ | .lod _ _ | .pushi | .call | .push _ | .calli | .stoiImm | .stoi _ | .sto _ _ | .inc _ | .add _
  | .sub _ | .rsb _ | .cmpRegRb _ | .cmpRbReg _ => false

/-- The byte a form stores to from the state after fetch, as memory (program memory when true) and address; `none` for a
form that stores nothing (rules R180 to R185, R188). -/
def Form.storesAt (f : Form) (s : Machine.State) : Option (Bool × Byte) :=
  match f with
  | .pushi | .call | .push _ | .calli => some (false, s.stp - 1#8)
  | .stoiImm => some (true, s.load true s.pc)
  | .stoi _ => some (false, s.load true s.pc)
  | .sto d _ => (s.reg d).map fun a => (decide (d = .rc), a)
  | .condJump _ | .clra | .movi _ | .jmpi | .jmz | .tst _ | .mov _ _ | .hlt | .undef | .nop | .peek _ | .lccMem
  | .lccPgm | .lcdPgm | .ret | .pop _ | .lccImm | .lodImm _ | .lcdImm | .clr _ | .lod _ _ | .inc _ | .add _ | .sub _
  | .rsb _ | .cmpRegRb _ | .cmpRbReg _ | .lccReg _ | .lcdReg _ => none

/-- The flags that rule R264 gives the sum of two bytes. -/
def sumFlags (a b : Byte) : Flags :=
  { c := decide (256 ≤ a.toNat + b.toNat)
    z := a + b == 0#8
    o := a.msb == b.msb && (a + b).msb != a.msb
    n := (a + b).msb }

/-- The flags that rule R264 gives the difference of two bytes: C is 1 when there is no borrow (rules R202 to R205). -/
def differenceFlags (a b : Byte) : Flags :=
  { c := decide (b.toNat ≤ a.toNat)
    z := a - b == 0#8
    o := a.msb != b.msb && (a - b).msb != a.msb
    n := (a - b).msb }

/-- How many microsteps a form takes after fetch (the table of rule R118). -/
def Form.steps : Form → Nat
  | .hlt | .nop | .undef | .mov _ _ | .tst _ | .cmpRegRb _ | .cmpRbReg _ | .lccReg _ | .lcdReg _ => 1
  | .condJump _ | .clra | .movi _ | .jmpi | .jmz | .peek _ | .lod _ _ | .lcdImm | .clr _ | .sto _ _ | .inc _ | .add _
  | .sub _ | .rsb _ => 2
  | .lccMem | .lcdPgm | .pop _ | .lodImm _ | .lccImm | .push _ | .stoi _ => 3
  | .lccPgm | .call => 4
  | .ret | .stoiImm => 5
  | .pushi | .calli => 6

/-- The 30 opcodes whose sequences name code 6 or 7 as a plain register (rule R269 (a)). -/
def pseudoOpcodes : List Byte :=
  [0x06#8, 0x0E#8, 0x16#8, 0x1E#8, 0x26#8, 0x2E#8]
    ++ [0x87#8, 0x8F#8, 0x97#8, 0x9F#8, 0xA7#8, 0xAF#8, 0xB6#8, 0xBE#8]
    ++ [0xC6#8, 0xC7#8, 0xCE#8, 0xCF#8, 0xD6#8, 0xD7#8, 0xDE#8, 0xDF#8]
    ++ [0xE6#8, 0xE7#8, 0xEE#8, 0xEF#8, 0xF6#8, 0xF7#8, 0xFE#8, 0xFF#8]

end Sys2Proof
end

