-- ==== Sys2Proof/Certificates/Slice0/Obligations.lean ====
section
/-! DEFINITION. The statements about the machine that the provers prove: the reset state and the invariant, one step and
its microsteps, the effect of every form of instruction, what each leaves unchanged, the encodings, the LCD device, the
host's moves, and the decoder ROM with its control word. -/

open Sys2Proof Sys2Proof.Machine

/-- The state after reset, and what a launch loads over it. Rule R270 gives the registers, the flags, the counter, the
halt and the LCD. That no parameter is supplied is log 5, that a run is on is log 8, and the launch is the model's
choice: what it loads from outside is log 3, what the bytes it does not load read as is log 4, and how it wraps is log
24. -/
def Obligations.ResetState : Prop :=
  (∀ r : Reg, r ≠ .stpi → r ≠ .imm → State.reset.reg r = some 0#8) ∧
    State.reset.acc = 0#8 ∧ State.reset.mar = 0#8 ∧ State.reset.ir = 0#8 ∧
    State.reset.flags = { c := false, z := false, o := false, n := false } ∧
    State.reset.mt = 0#3 ∧ State.reset.halted = false ∧ State.reset.lcd = Lcd.make 16 2 ∧
    (∀ P : OpenSeqs, rom P State.reset.ir State.reset.mt State.reset.flags = fetch0) ∧ State.reset.pc = 0#8 ∧
    State.reset.openSeqs = OpenSupply.nothing ∧ State.reset.running = true ∧
    ∀ (seqs : OpenSupply) (program data : List Byte) (width height : Nat), 1 ≤ width → 1 ≤ height → height ≤ 4 →
      State.launch seqs program data width height = .next
        { State.reset with
          pmem := Memory.load [] 0#8 program
          dmem := Memory.load [] 0#8 data
          lcd := Lcd.make width height
          openSeqs := seqs }

/-- The invariant holds after reset. The canonical form of a memory is the model's (log 4); the device's part is rules
R32, R224 and R240. -/
def Obligations.ResetMeetsInvariant : Prop :=
  State.reset.inv = true

/-- Every step keeps the invariant. Rule R32 ("LCD cursor pointer always points within DDRAM"), rule R240's sentinel
and rule R266's memories, as one invariant of the model; the canonical form is log 4. -/
def Obligations.StepKeepsInvariant : Prop :=
  ∀ s t : State, s.inv = true → Machine.step s = .next t → t.inv = true

/-- A step runs the instruction that the byte at the PC decodes to. Rules R111, R112 and R330; that a step is a whole
instruction is log 1. -/
def Obligations.StepRunsDecoded : Prop :=
  ∀ (s : State) (i : Instr) (rest : List Byte), s.ops = [] → s.halted = false → s.running = true →
    s.mt = 0#3 →
    decode .opcode (s.load true s.pc :: rest) = .ok (i, rest) →
      i.wf = true ∧
        Machine.step s =
          exec i { s with mar := s.pc, ir := s.load true s.pc, pc := s.pc + 1#8, mt := 2#3 }

/-- A word placed by withFetchWord is what the next step runs. Rules R111, R112 and R266; the placing of a word is the
model's (log 3). -/
def Obligations.PlacedWordRuns : Prop :=
  ∀ (s : State) (w : Nat) (i : Instr), w < 256 → decodeTableWord 8 w = some i →
    Machine.step (s.withFetchWord 8 w) =
      exec i
        { s.withFetchWord 8 w with mar := s.pc, ir := BitVec.ofNat 8 w, pc := s.pc + 1#8, mt := 2#3 }

/-- A step of the processor ends at an instruction boundary or halted. Rules R115 (b), R117, R118 and R304; that a
step ends there is log 1. -/
def Obligations.StepEndsAtBoundary : Prop :=
  ∀ s t : State, s.ops = [] → s.running = true → Machine.step s = .next t → t.atBoundary = true

/-- A step is the composition of the microsteps that the ROM gives. Rule R271: "An instruction is the microsteps from
an `mt = 0` step to the step that sets `mt` back to 0", and the lengths of rule R118; that a step of the model is a
whole instruction is log 1. -/
def Obligations.StepIsMicrosteps : Prop :=
  (∀ s : State, s.ops = [] → s.halted = false → s.running = true → s.mt = 0#3 →
      Machine.step s = runMicro 8 s ∧
        ∀ f : Form, f = formOf (s.load true s.pc) →
          (∀ q : List SigSet, s.openSeq f = some q →
            keepsOpcode f q { s with mar := s.pc, ir := s.load true s.pc, pc := s.pc + 1#8, mt := 2#3 } = true) →
          Machine.step s = runFor (2 + f.steps) s) ∧
    (∀ (m n : Nat) (s : State), runFor (m + n) s = andThen (runFor m s) (runFor n)) ∧
    ∀ (n : Nat) (s : State), s.halted = true → microstep s = .next s ∧ runFor n s = .next s

/-- Every instruction but the 30 pseudo-register opcodes completes, an OPEN one with its parameter. The rules say
"Exceptions: none" of each; what the next state is stands in the effect statements below. That the four OPEN opcodes
run the supplied parameter, and which values count as one, is log 5; rule R269 (f) has them stop without one. -/
def Obligations.InstructionCompletes : Prop :=
  ∀ (i : Instr) (s : State), (i.space = .opcode → encodeByte i ∉ pseudoOpcodes) →
    (∀ f : Form, i.form = some f → f.isOpen = true →
      ∃ q, s.openSeq f = some q ∧ seqFaultless q = true ∧ keepsOpcode f q s = true) →
    ∃ t, exec i s = .next t

/-- The 30 pseudo-register opcodes and the OPEN opcodes without a parameter fault, no other form of the spec does,
none is refused. Rule R269: "Case (a) occurs in exactly 30 opcodes, whose sequences name code 6 or 7 as a plain
register" (log 25), and case (f). Which values of a parameter count as supplied is log 5. -/
def Obligations.PseudoRegisterFaults : Prop :=
  (∀ (i : Instr) (s : State), i.space = .opcode → encodeByte i ∈ pseudoOpcodes →
      exec i s = .fault .pseudoDriver) ∧
    (∀ (i : Instr) (f : Form) (s : State), i.form = some f → s.lacks f = true →
      exec i s = .fault .openUnsupplied) ∧
    (∀ (i : Instr) (s : State) (e : Fault), exec i s = .fault e →
      (i.space = .opcode ∧ encodeByte i ∈ pseudoOpcodes ∧ e = .pseudoDriver) ∨
        (∃ f, i.form = some f ∧ s.lacks f = true ∧ e = .openUnsupplied) ∨
        ∃ f q, i.form = some f ∧ s.openSeq f = some q ∧
          (seqFaultless q = false ∨ keepsOpcode f q s = false)) ∧
    ∀ (i : Instr) (s : State) (e : Refusal), exec i s ≠ .refused e

/-- The eight conditional jumps: PC takes the immediate when the condition holds, else skips it. Rule R130: "taken,
`PC <- PMEM[PC]`; not taken, `PC <- PC + 1`". -/
def Obligations.CondJumpEffect : Prop :=
  ∀ (i : Instr) (c : Cond) (s : State), i.form = some (.condJump c) →
    exec i s = .next
      (if condHolds c s.flags then ((s.setMar s.pc).setReg .pc (s.load true s.pc)).endInstr
       else (s.setReg .pc (s.pc + 1#8)).endInstr)

/-- clra, jmz and clr write zero, and Acc and the flags are those of zero. Rule R131: "`Acc <- PC AND 0 = 0`, then Ra,
Rb, Rc, Rd, StP `<- 0`"; rules R134 and R160 likewise. -/
def Obligations.ClearEffects : Prop :=
  (∀ (i : Instr) (s : State), i.form = some .clra →
      exec i s = .next
        { s with
          acc := 0#8, flags := { c := false, z := true, o := false, n := false }, mt := 0#3
          ra := 0#8, rb := 0#8, rc := 0#8, rd := 0#8, stp := 0#8 }) ∧
    (∀ (i : Instr) (s : State), i.form = some .jmz →
      exec i s = .next
        { s with
          acc := 0#8, flags := { c := false, z := true, o := false, n := false }, mt := 0#3, pc := 0#8 }) ∧
    ∀ (i : Instr) (d : Reg) (s : State), i.form = some (.clr d) →
      exec i s = .next
        (({ s with
            acc := 0#8, flags := { c := false, z := true, o := false, n := false }, mt := 0#3 } : State).setReg d 0#8)

/-- movi loads the immediate and skips it; jmpi jumps to it. Rule R132: "`d <- PMEM[PC]; PC <- PC + 1`"; rule R133:
"`PC <- PMEM[PC]`". -/
def Obligations.MoveImmediateEffect : Prop :=
  (∀ (i : Instr) (d : Reg) (s : State), i.form = some (.movi d) →
      exec i s = .next (((s.setMar s.pc).setReg .pc (s.pc + 1#8)).setReg d (s.load true s.pc)).endInstr) ∧
    ∀ (i : Instr) (s : State), i.form = some .jmpi →
      exec i s = .next ((s.setMar s.pc).setReg .pc (s.load true s.pc)).endInstr

/-- tst puts the register in Acc and sets the flags from it. Rule R135: "`Acc <- s + 0`; no register other than Acc
changes", "Z, N from `s`; C=0, O=0". -/
def Obligations.TestEffect : Prop :=
  ∀ (i : Instr) (r : Reg) (s : State) (v : Byte), i.form = some (.tst r) → s.reg r = some v →
    exec i s = .next
      { s with acc := v, flags := { c := false, z := v == 0#8, o := false, n := v.msb }, mt := 0#3 }

/-- mov and jmp copy a register. Rule R136: "`d <- s`". -/
def Obligations.MoveEffect : Prop :=
  ∀ (i : Instr) (d r : Reg) (s : State) (v : Byte), i.form = some (.mov d r) → s.reg r = some v →
    exec i s = .next (s.setReg d v).endInstr

/-- hlt sets halted and changes nothing else, and a halted machine stays as it is. Rules R137, R268 and R304; that a
halted machine's step answers the same state is log 2. -/
def Obligations.HaltEffect : Prop :=
  (∀ (i : Instr) (s : State), i.form = some .hlt → exec i s = .next { s with halted := true }) ∧
    ∀ s : State, s.ops = [] → s.halted = true → Machine.step s = .next s

/-- nop and the five undefined opcodes do nothing beyond fetch. Rule R95: "Exactly five opcodes are undefined"; rules
R138 and R140. -/
def Obligations.NoOperationEffect : Prop :=
  (∀ (i : Instr) (s : State), i.form = some .nop ∨ i.form = some .undef → exec i s = .next s.endInstr) ∧
    ∀ op : Byte, formOf op = .undef ↔ op ∈ [0x12#8, 0x1B#8, 0x24#8, 0x2D#8, 0x36#8]

/-- peek loads the byte at StP. Rule R150: "`s <- DMEM[StP]`; StP unchanged". -/
def Obligations.PeekEffect : Prop :=
  ∀ (i : Instr) (d : Reg) (s : State), i.form = some (.peek d) →
    exec i s = .next ((s.setMar s.stp).setReg d (s.load false s.stp)).endInstr

/-- lcc mem, lcd pgm and lcd imm send a memory byte to the LCD. Rule R151: "`a <- PMEM[PC]; PC <- PC + 1;
send_command(DMEM[a])`"; rules R154 and R159 likewise. -/
def Obligations.LcdMemoryEffects : Prop :=
  (∀ (i : Instr) (s : State) (a : Byte), i.form = some .lccMem → s.load true s.pc = a →
      exec i s = .next
        (((s.setMar a).setReg .pc (s.pc + 1#8)).setLcd (s.lcd.sendCommand (s.load false a))).endInstr) ∧
    (∀ (i : Instr) (s : State) (a : Byte), i.form = some .lcdPgm → s.load true s.pc = a →
      exec i s = .next
        (((s.setMar a).setReg .pc (s.pc + 1#8)).setLcd (s.lcd.writeByte (s.load true a))).endInstr) ∧
    ∀ (i : Instr) (s : State), i.form = some .lcdImm →
      exec i s = .next
        (((s.setMar s.pc).setReg .pc (s.pc + 1#8)).setLcd (s.lcd.writeByte (s.load true s.pc))).endInstr

/-- ret pops its address from above StP and keeps Acc. Rule R155: "`t <- Acc; StP <- StP + 1; Acc <- t; PC <-
DMEM[StP]` (the new StP), with Acc preserved"; rule R186. -/
def Obligations.RetEffect : Prop :=
  ∀ (i : Instr) (s : State), i.form = some .ret →
    exec i s = .next
      { s with
        stp := s.stp + 1#8, mar := s.stp + 1#8, pc := s.load false (s.stp + 1#8)
        flags := { c := false, z := s.acc == 0#8, o := false, n := s.acc.msb }, mt := 0#3 }

/-- pop loads from above StP; pop StP keeps the loaded byte. Rule R156: "`StP <- StP + 1; d <- DMEM[StP]` (the new
StP)"; rule R187. -/
def Obligations.PopEffect : Prop :=
  ∀ (i : Instr) (d : Reg) (s : State), i.form = some (.pop d) →
    exec i s = .next
      (({ s with
          stp := s.stp + 1#8, mar := s.stp + 1#8, acc := s.stp + 1#8, flags := sumFlags s.stp 1#8
          mt := 0#3 } : State).setReg d (s.load false (s.stp + 1#8)))

/-- lod through an immediate or a register; Rc points to program memory. Rule R158: "`a <- PMEM[PC]; PC <- PC + 1; d
<- DMEM[a]`"; rule R161: "`d <- DMEM[s]`, or `d <- PMEM[Rc]` when `s == Rc`". -/
def Obligations.LoadEffects : Prop :=
  (∀ (i : Instr) (d : Reg) (s : State) (a : Byte), i.form = some (.lodImm d) → s.load true s.pc = a →
      exec i s = .next (((s.setMar a).setReg .pc (s.pc + 1#8)).setReg d (s.load false a)).endInstr) ∧
    ∀ (i : Instr) (d r : Reg) (s : State) (a : Byte), i.form = some (.lod d r) → s.reg r = some a →
      exec i s = .next ((s.setMar a).setReg d (s.load (decide (r = .rc)) a)).endInstr

/-- pushi pushes the immediate byte. Rule R180: "`StP <- StP - 1; DMEM[StP] <- PMEM[PC]; PC <- PC + 1; Acc <-
PMEM[PC]`". -/
def Obligations.PushImmediateEffect : Prop :=
  ∀ (i : Instr) (s : State) (v : Byte), i.form = some .pushi → s.load true s.pc = v →
    exec i s = .next
      (({ s with
          stp := s.stp - 1#8, mar := s.stp - 1#8, pc := s.pc + 1#8, acc := v
          flags := { c := false, z := v == 0#8, o := false, n := v.msb }, mt := 0#3 } : State).store
        false (s.stp - 1#8) v)

/-- push stores a register below StP; call Rc stores the return address and jumps to Rc. Rule R182: "`StP <- StP - 1;
DMEM[StP] <- s`"; rule R181: "`StP <- StP - 1; DMEM[StP] <- PC; PC <- Rc`". -/
def Obligations.PushAndCallEffects : Prop :=
  (∀ (i : Instr) (r : Reg) (s : State) (v : Byte), i.form = some (.push r) →
      (s.setReg .stp (s.stp - 1#8)).reg r = some v →
      exec i s = .next
        (({ s with
            stp := s.stp - 1#8, mar := s.stp - 1#8, acc := s.stp - 1#8, flags := sumFlags s.stp 0xFF#8
            mt := 0#3 } : State).store false (s.stp - 1#8) v)) ∧
    ∀ (i : Instr) (s : State), i.form = some .call →
      exec i s = .next
        (({ s with
            stp := s.stp - 1#8, mar := s.stp - 1#8, acc := s.stp - 1#8, flags := sumFlags s.stp 0xFF#8
            pc := s.rc, mt := 0#3 } : State).store false (s.stp - 1#8) s.pc)

/-- stoi s and sto store a register; through Rc the store goes to program memory. Rule R185: "`a <- PMEM[PC]; PC <- PC
+ 1; DMEM[a] <- s`"; rule R188: "`DMEM[d] <- s`, or `PMEM[Rc] <- s` when `d == Rc`". -/
def Obligations.StoreEffects : Prop :=
  (∀ (i : Instr) (r : Reg) (s : State) (a v : Byte), i.form = some (.stoi r) → s.load true s.pc = a →
      s.reg r = some v →
      exec i s = .next (((s.setMar a).setReg .pc (s.pc + 1#8)).store false a v).endInstr) ∧
    ∀ (i : Instr) (d r : Reg) (s : State) (a v : Byte), i.form = some (.sto d r) → s.reg d = some a →
      s.reg r = some v → exec i s = .next ((s.setMar a).store (decide (d = .rc)) a v).endInstr

/-- inc adds one to a register, and Acc and the flags are those of the sum. Rule R200: "`Acc <- r + 1; r <- r + 1`
(mod 256)". -/
def Obligations.IncrementEffect : Prop :=
  ∀ (i : Instr) (r : Reg) (s : State) (v : Byte), i.form = some (.inc r) → s.reg r = some v →
    exec i s = .next
      (({ s with
          acc := v + 1#8
          flags := { c := v == 0xFF#8, z := v == 0xFF#8, o := v == 0x7F#8, n := (v + 1#8).msb }
          mt := 0#3 } : State).setReg r (v + 1#8))

/-- add, sub and rsb combine a register with Rb; C of a difference means no borrow. Rule R201: "`r <- r + Rb` (mod
256)"; rule R202: "`r <- r - Rb`"; rule R203: "`r <- Rb - r`". -/
def Obligations.AddSubtractEffects : Prop :=
  ∀ (i : Instr) (r : Reg) (s : State) (v : Byte), s.reg r = some v →
    (i.form = some (.add r) →
      exec i s = .next
        (({ s with acc := v + s.rb, flags := sumFlags v s.rb, mt := 0#3 } : State).setReg r (v + s.rb))) ∧
    (i.form = some (.sub r) →
      exec i s = .next
        (({ s with acc := v - s.rb, flags := differenceFlags v s.rb, mt := 0#3 } : State).setReg r (v - s.rb))) ∧
    (i.form = some (.rsb r) →
      exec i s = .next
        (({ s with acc := s.rb - v, flags := differenceFlags s.rb v, mt := 0#3 } : State).setReg r (s.rb - v)))

/-- cmp sets Acc and the flags from the difference and changes no register. Rule R204: "`Acc <- r - Rb`; no register
changes"; rule R205: "`Acc <- Rb - r`; no register changes". -/
def Obligations.CompareEffects : Prop :=
  ∀ (i : Instr) (r : Reg) (s : State) (v : Byte), s.reg r = some v →
    (i.form = some (.cmpRegRb r) →
      exec i s = .next { s with acc := v - s.rb, flags := differenceFlags v s.rb, mt := 0#3 }) ∧
    (i.form = some (.cmpRbReg r) →
      exec i s = .next { s with acc := s.rb - v, flags := differenceFlags s.rb v, mt := 0#3 })

/-- lcc r and lcd r send a register to the LCD. Rule R206: "`send_command(r)`"; rule R207: "`write_byte(r)`". -/
def Obligations.LcdRegisterEffects : Prop :=
  ∀ (i : Instr) (r : Reg) (s : State) (v : Byte), s.reg r = some v →
    (i.form = some (.lccReg r) → exec i s = .next (s.setLcd (s.lcd.sendCommand v)).endInstr) ∧
    (i.form = some (.lcdReg r) → exec i s = .next (s.setLcd (s.lcd.writeByte v)).endInstr)

/-- lcc imm and lcc pgm send a program byte to the LCD as a command. Rules R157 and R153; that an OPEN opcode runs the
parameter that is supplied is log 5, and what rule R153 does not say of lcc pgm is left to its parameter (log 6). -/
def Obligations.OpenLcdEffects : Prop :=
  (∀ (i : Instr) (s : State) (q : List SigSet), i.form = some .lccImm → s.openSeqs.lccImm = some q →
      lccImmAdmissible q → afterFetch 0x7E#8 s → ∃ t, exec i s = .next t ∧ t.mt = 0#3 ∧ lccImmEffect s t) ∧
    (∀ (i : Instr) (s : State) (q : List SigSet), i.form = some .lccPgm → s.openSeqs.lccPgm = some q →
      lccPgmAdmissible q → afterFetch 0x76#8 s → ∃ t, exec i s = .next t ∧ t.mt = 0#3 ∧ lccPgmEffect s t) ∧
    ∀ (i : Instr) (s : State) (q : List SigSet), i.form = some .lccPgm → s.openSeqs.lccPgm = some q →
      lccPgmShape q = true → seqFaultless q = true → keepsOpcode .lccPgm q s = true → afterFetch 0x76#8 s →
      ∃ (k : Nat) (S : SigSet) (u t : State), q[k]? = some S ∧ .lcd ∈ S ∧ .lcdCommand ∈ S ∧ .pgm ∈ S ∧
        runFor k s = .next u ∧ exec i s = .next t ∧ t.mt = 0#3 ∧
        t.lcd = s.lcd.sendCommand (u.load true u.mar) ∧
        ((∀ S' ∈ q, .mw ∉ S') →
          u.load true u.mar = s.load true u.mar ∧ t.pmem = s.pmem ∧ t.dmem = s.dmem)

/-- calli pushes a return address and jumps; stoi Imm, Imm stores in program memory. Rules R183 and R184; that an OPEN
opcode runs the parameter that is supplied is log 5, which also says why rule R184's effect is not stated of a
parameter for every state, and that rule R183 gives calli no frame is log 7. -/
def Obligations.OpenStoreEffects : Prop :=
  (∀ (i : Instr) (s : State) (q : List SigSet) (next : Bool), i.form = some .calli → s.openSeqs.calli = some q →
      calliAdmissible next q → afterFetch 0xB8#8 s →
      ∃ t, exec i s = .next t ∧ t.mt = 0#3 ∧ calliEffect next s t) ∧
    (∀ (i : Instr) (s : State) (q : List SigSet), i.form = some .stoiImm → s.openSeqs.stoi = some q →
      stoiShape q = true → seqFaultless q = true → keepsOpcode .stoiImm q s = true → afterFetch 0xBF#8 s →
      ∃ (k : Nat) (S : SigSet) (v : Byte) (u t : State), q[k]? = some S ∧ .mw ∈ S ∧ .pgm ∈ S ∧
        runFor k s = .next u ∧ busValue S u = some v ∧ exec i s = .next t ∧ t.mt = 0#3 ∧ t.lcd = s.lcd ∧
        t.load true u.mar = v ∧ ∀ a : Byte, a ≠ u.mar → t.load true a = s.load true a) ∧
    ∀ (i : Instr) (s : State), i.form = some .stoiImm → s.openSeqs.stoi = some stoiFromAcc →
      s.acc = s.pc + 1#8 → ∃ t, exec i s = .next t ∧ t.mt = 0#3 ∧ stoiEffect s t

/-- The OPEN opcodes run the sequence supplied for them, whichever admissible one it is. Rules R153, R157, R183 and
R184; which values count as supplied is log 5. -/
def Obligations.OpenEffectOfAnySequence : Prop :=
  (∀ (i : Instr) (f : Form) (s : State), i.form = some f → f.isOpen = true → s.mt = 2#3 → formOf s.ir = f →
      s.halted = false → exec i s = runMicro 6 s) ∧
    (∀ (i : Instr) (f : Form) (s : State) (q : List SigSet), i.form = some f → s.openSeq f = some q →
      seqFaultless q = true → keepsOpcode f q s = true →
        exec i s = .next (afterSteps q s) ∧ (afterSteps q s).mt = 0#3) ∧
    ∀ (s : State) (q : List SigSet),
      (s.openSeqs.lccImm = some q → lccImmShape q = true → s.openSeq .lccImm = some q) ∧
        (s.openSeqs.lccPgm = some q → lccPgmShape q = true → s.openSeq .lccPgm = some q) ∧
        (s.openSeqs.calli = some q → calliShape q = true → s.openSeq .calli = some q) ∧
        (s.openSeqs.stoi = some q → stoiShape q = true → s.openSeq .stoiImm = some q) ∧
        (lccImmAdmissible q → lccImmShape q = true) ∧ (lccPgmAdmissible q → lccPgmShape q = true) ∧
        (∀ next : Bool, calliAdmissible next q → calliShape q = true) ∧ (stoiAdmissible q → stoiShape q = true)

/-- An opcode changes no register but the PC and its destinations. The rules' effects name what changes; for an OPEN
opcode its parameter does (log 5, log 6, log 7). -/
def Obligations.FrameRegisters : Prop :=
  ∀ (i : Instr) (f : Form) (s t : State) (r : Reg), i.form = some f → exec i s = .next t → r ≠ .pc →
    (f.isOpen = false → r ∉ f.destinations → t.reg r = s.reg r) ∧
      ∀ q : List SigSet, s.openSeq f = some q → keepsOpcode f q s = true →
        (∀ S ∈ q, .r r ∉ S ∧ (r = .stp → .stpw ∉ S)) → t.reg r = s.reg r

/-- Acc and the flags change only in the opcodes with an ALU step; ret keeps Acc. Rule R264: "Flags are written in,
and only in, a microstep with `_ALW`"; that an OPEN opcode runs its parameter is log 5. -/
def Obligations.FrameAccFlags : Prop :=
  ∀ (i : Instr) (f : Form) (s t : State), i.form = some f → exec i s = .next t →
    (f.latchesAlu = false → t.acc = s.acc ∧ t.flags = s.flags) ∧ (f = .ret → t.acc = s.acc) ∧
      ∀ q : List SigSet, s.openSeq f = some q → keepsOpcode f q s = true → (∀ S ∈ q, .alw ∉ S) →
        t.acc = s.acc ∧ t.flags = s.flags

/-- An opcode changes no byte of memory but the one it stores to. Rules R57, R180 to R185 and R188: which forms write
memory, and where. That an OPEN opcode, lcc pgm among them, runs its parameter and keeps no more than that does is log
5, log 6 and log 7. -/
def Obligations.FrameMemory : Prop :=
  ∀ (i : Instr) (f : Form) (s t : State) (pgm : Bool) (b : Byte), i.form = some f → exec i s = .next t →
    (f.isOpen = false → f.storesAt s ≠ some (pgm, b) → t.load pgm b = s.load pgm b) ∧
      ∀ q : List SigSet, s.openSeq f = some q → keepsOpcode f q s = true →
        (∀ S ∈ q, .mw ∈ S → S.contains .pgm ≠ pgm) → t.load pgm b = s.load pgm b

/-- IR, halted, the LCD and the model's own fields change only where a rule says so. Rules R33, R117, R265 and R268;
that an OPEN opcode, lcc pgm among them, runs its parameter is log 5 and log 6, that a command class as an instruction
leaves all but the LCD is log 13, and the model's own fields are logs 8 and 12. -/
def Obligations.FrameRest : Prop :=
  (∀ (i : Instr) (f : Form) (s t : State), i.form = some f → exec i s = .next t →
      t.ops = s.ops ∧ t.openSeqs = s.openSeqs ∧ t.running = s.running ∧ (f.isOpen = false → t.ir = s.ir) ∧
        (∀ q : List SigSet, s.openSeq f = some q → (∀ S ∈ q, .irw ∉ S) → t.ir = s.ir) ∧
        (f.strobesLcd = false → (∀ q : List SigSet, s.openSeq f = some q → keepsOpcode f q s = true) →
          t.lcd = s.lcd) ∧
        (f ≠ .hlt → t.halted = s.halted ∧ t.mt = 0#3)) ∧
    ∀ (i : Instr) (s t : State), i.space = .lcdCommand → exec i s = .next t →
      t = s.setLcd t.lcd ∧ t.lcd.width = s.lcd.width ∧ t.lcd.height = s.lcd.height ∧ t.lcd.pix = s.lcd.pix

/-- Decoding an encoded well-formed instruction gives it back. Rules R70, R71, R91 to R94 and R97, both ways round. -/
def Obligations.DecodeEncode : Prop :=
  ∀ (i : Instr) (rest : List Byte), i.wf = true → decode i.space (encode i ++ rest) = .ok (i, rest)

/-- Every byte decodes, and the decoded instruction encodes to that byte. Rules R78, R90 and R96: no encoding is
refused. -/
def Obligations.EncodeDecode : Prop :=
  (∀ (space : Space) (b : Byte) (rest : List Byte),
      ∃ i, decode space (b :: rest) = .ok (i, rest) ∧ encode i = [b] ∧ i.wf = true ∧ i.space = space) ∧
    ∀ space : Space, decode space [] = .error .noByte

/-- A few words written out from the spec decode to the instructions they stand for. Rules R91 to R94 and R97. -/
def Obligations.WrittenWordsDecode : Prop :=
  decode .opcode [0b00001111#8] = .ok (.moviRa, []) ∧ decode .opcode [0b00111111#8] = .ok (.jnc, []) ∧
    decode .opcode [0b00110111#8] = .ok (.clra, []) ∧ decode .opcode [0b01010110#8] = .ok (.popRb, []) ∧
    decode .opcode [0b01111111#8] = .ok (.lcdImm, []) ∧ decode .opcode [0b10110001#8] = .ok (.pushRa, []) ∧
    decode .opcode [0b10011010#8] = .ok (.stoPgmRcRb, []) ∧ decode .opcode [0b11000010#8] = .ok (.incRb, []) ∧
    decode .opcode [0b11101100#8] = .ok (.cmpRbRd, []) ∧
    decode .lcdCommand [0b10010001#8] = .ok (.lcdSetDramAddr 0x11#8, []) ∧
    decode .lcdCommand [0b00001100#8] = .ok (.lcdDisplay 0x04#8, []) ∧
    decode .lcdCommand [0b00000001#8] = .ok (.lcdClear, [])

/-- The eight flag selectors of the conditional jumps. Rule R74. -/
def Obligations.FlagSelectors : Prop :=
  formOf 0x38#8 = .condJump .carry ∧ formOf 0x39#8 = .condJump .zero ∧ formOf 0x3A#8 = .condJump .oflow ∧
    formOf 0x3B#8 = .condJump .notNeg ∧ formOf 0x3C#8 = .condJump .neg ∧ formOf 0x3D#8 = .condJump .notOflow ∧
    formOf 0x3E#8 = .condJump .notZero ∧ formOf 0x3F#8 = .condJump .notCarry ∧
    (∀ f : Flags,
      condHolds .carry f = f.c ∧ condHolds .zero f = f.z ∧ condHolds .oflow f = f.o ∧ condHolds .neg f = f.n ∧
        condHolds .notCarry f = !f.c ∧ condHolds .notZero f = !f.z ∧ condHolds .notOflow f = !f.o ∧
        condHolds .notNeg f = !f.n) ∧
    Cond.code .notCarry = ~~~(Cond.code .carry) ∧ Cond.code .notZero = ~~~(Cond.code .zero) ∧
    Cond.code .notOflow = ~~~(Cond.code .oflow) ∧ Cond.code .notNeg = ~~~(Cond.code .neg)

/-- A command byte's highest set bit selects its LCD command. Rules R222 and R97. -/
def Obligations.LcdCommandByte : Prop :=
  ∀ (b : Byte) (s : State),
    exec (decodeCommand b) s = .next (s.setLcd (s.lcd.sendCommand b)) ∧
    (0x80 ≤ b.toNat → exec (decodeCommand b) s = .next
      (s.setLcd { s.lcd with cursor := min (b &&& 0x7F#8).toNat (s.lcd.size - 1) })) ∧
    (0x40 ≤ b.toNat → b.toNat < 0x80 → exec (decodeCommand b) s = .next s) ∧
    (0x20 ≤ b.toNat → b.toNat < 0x40 → exec (decodeCommand b) s = .next s) ∧
    (0x10 ≤ b.toNat → b.toNat < 0x20 → exec (decodeCommand b) s = .next s) ∧
    (0x08 ≤ b.toNat → b.toNat < 0x10 → exec (decodeCommand b) s = .next
      (s.setLcd { s.lcd with displayFlags := b })) ∧
    (0x04 ≤ b.toNat → b.toNat < 0x08 → exec (decodeCommand b) s = .next
      (s.setLcd { s.lcd with entryMode := b })) ∧
    (0x02 ≤ b.toNat → b.toNat < 0x04 → exec (decodeCommand b) s = .next (s.setLcd { s.lcd with cursor := 0 })) ∧
    (b.toNat = 0x01 → ∃ m : Memory,
      exec (decodeCommand b) s = .next (s.setLcd { s.lcd with cursor := 0, ddram := m }) ∧
        ∀ o : Nat, o < (s.lcd.width + 1) * s.lcd.height → m.read o = 0#8) ∧
    (b.toNat = 0x00 → exec (decodeCommand b) s = .next s)

/-- write_byte stores at the cursor and advances it under INCREMENT. Rule R232. -/
def Obligations.LcdWriteByte : Prop :=
  ∀ (l : Lcd) (b : Byte),
    (l.writeByte b).ddram.read l.cursor = b ∧
      (∀ o : Nat, o ≠ l.cursor → (l.writeByte b).ddram.read o = l.ddram.read o) ∧
      (l.writeByte b).cursor = (if l.entryMode.getLsbD 1 then l.advance l.cursor else l.cursor) ∧
      l.writeByte b = { l with ddram := (l.writeByte b).ddram, cursor := (l.writeByte b).cursor }

/-- The cursor advance goes cell by cell, line by line, and never to a gap byte. Rule R233: "From any cursor value the
result is below SIZE and is not a gap byte", which the spec marks as derived, as is the order of the visits. -/
def Obligations.AdvanceVisitsVisibleCells : Prop :=
  ∀ l : Lcd, geometryOk l.width l.height = true →
    (∀ c : Nat, l.advance c < l.size ∧ l.isGap (l.advance c) = false) ∧
      ∀ row col : Nat, row < l.height → col < l.width →
        l.advance (row * l.lineWidth + col) =
          if col + 1 < l.width then row * l.lineWidth + (col + 1)
          else if row + 1 < l.height then (row + 1) * l.lineWidth else 0

/-- Every LCD operation keeps the device's invariant, and construction gives it. Rule R32: "Invariant kept by every
LCD operation: `cursor < LINE_WIDTH*height`"; the rest of the invariant is rules R224 and R240 and the model's
canonical form (log 26). -/
def Obligations.LcdInvariantKept : Prop :=
  (∀ (width height : Nat) (l : Lcd), Lcd.new? width height = some l → l.inv = true) ∧
    ∀ l : Lcd, l.inv = true →
      (∀ b : Byte, (l.writeByte b).inv = true ∧ (l.sendCommand b).inv = true) ∧
        (∀ bytes : List Byte, (l.writeString bytes).inv = true) ∧ l.updatePixels.inv = true

/-- update_pixels draws each cell's glyph and nothing else. Rules R240, R241 and R243; the glyphs but for the space
are free (log 11). -/
def Obligations.UpdatePixelsDrawsGlyphs : Prop :=
  (∀ l : Lcd, l.inv = true →
      (∀ row col i j : Nat, row < l.height → col < l.width → i < 5 → j < 8 →
        pixelAt l.updatePixels.pix (col * 6 + i) (row * 9 + j) =
          some (if (glyphColumn (l.ddram.read (row * (l.width + 1) + col)) i).getLsbD (7 - j) then .on else .off)) ∧
        (∀ x y : Nat, inGlyph x y = false → pixelAt l.updatePixels.pix x y = pixelAt l.pix x y) ∧
        l.updatePixels = { l with pix := l.updatePixels.pix }) ∧
    ∀ i : Nat, glyphColumn 0x20#8 i = 0#8

/-- What read_byte, num_pixels and pixel_state answer the host. Rules R235 and R237 and R242. -/
def Obligations.PixelStateReads : Prop :=
  (∀ l : Lcd, l.readByte = l.ddram.read l.cursor ∧ l.numPixels = (l.width * 6 - 1, l.height * 9 - 1)) ∧
    (∀ (l : Lcd) (x y : Nat) (p : Pixel), x < l.pixelsWidth → y < l.pixelsHeight → pixelAt l.pix x y = some p →
      l.pixelState x y = p.value) ∧
    (∀ (l : Lcd) (x y : Int), ¬(0 ≤ x ∧ x < l.pixelsWidth ∧ 0 ≤ y ∧ y < l.pixelsHeight) → l.pixelState x y = -1) ∧
    (∀ (width height : Nat) (x y : Int), (Lcd.make width height).pixelState x y = -1) ∧
    ∀ l : Lcd, l.inv = true → ∀ x y : Nat,
      (inGlyph x y = false → l.pixelState x y = -1) ∧
        (inGlyph x y = true → x < l.pixelsWidth → y < l.pixelsHeight →
          l.updatePixels.pixelState x y = 0 ∨ l.updatePixels.pixelState x y = 1)

/-- A line written after CLEAR reads back. Scenario F in general, from rules R231 to R236. -/
def Obligations.WriteThenReadLine : Prop :=
  ∀ (l : Lcd) (bytes : List Byte), l.inv = true → l.entryMode.getLsbD 1 = true → 0#8 ∉ bytes →
    bytes.length ≤ l.width →
      (l.clear.writeString bytes).readLine 0 = bytes ∧
        ∀ row : Nat, 0 < row → (l.clear.writeString bytes).readLine row = []

/-- new(width, height): the device just constructed, and the refusal outside the bounds. Rules R223 and R224; that the
host has the move outside a run only is rule R338, read as logs 8 and 12 say. -/
def Obligations.LcdConstruction : Prop :=
  ∀ (width height : Nat) (s : State), s.running = false →
    (1 ≤ width ∧ 1 ≤ height ∧ height ≤ 4 →
      hostMove (.lcdNew width height) s = .next (s.setLcd (Lcd.make width height))) ∧
    (¬(1 ≤ width ∧ 1 ≤ height ∧ height ≤ 4) → hostMove (.lcdNew width height) s = .refused .lcdConstruction) ∧
    (Lcd.make width height).lineWidth = width + 1 ∧ (Lcd.make width height).size = (width + 1) * height ∧
    (Lcd.make width height).pixelsWidth = width * 6 - 1 ∧ (Lcd.make width height).pixelsHeight = height * 9 - 1 ∧
    (Lcd.make width height).cursor = 0 ∧ (∀ o : Nat, (Lcd.make width height).ddram.read o = 0#8) ∧
    (Lcd.make width height).entryMode = 0x06#8 ∧ (Lcd.make width height).displayFlags = 0x00#8 ∧
    ∀ x y : Nat, x < width * 6 - 1 → y < height * 9 - 1 →
      pixelAt (Lcd.make width height).pix x y = some .unset

/-- HLT halts and holds the counter; a resume ends the instruction with the filler. Rule R268. -/
def Obligations.HaltAndResume : Prop :=
  (∀ s : State, commit [.hlt] s = .next { s with halted := true }) ∧
    (∀ s : State, s.halted = true → resume s = .next { s with halted := false, mt := s.mt + 1#3 }) ∧
    ∀ (P : OpenSeqs) (s : State), s.halted = true → s.ir = 0x00#8 → s.mt = 2#3 →
      rom P s.ir (s.mt + 1#3) s.flags = filler ∧
        ∃ t, resume s = .next t ∧ microstep t = .next { t with mt := 0#3 } ∧ rom P t.ir 0#3 t.flags = fetch0

/-- A reset sets the datapath and the counter, constructs the LCD anew, keeps the memories and the ROM, and a run is
on. Rules R320 to R322 and R338; that a reset during a run keeps memories, size and waiting moves is log 17, and the
mark of a run is log 8. -/
def Obligations.HostResetEffect : Prop :=
  ∀ s : State, hostMove .reset s = .next
    { State.reset with
      pmem := s.pmem, dmem := s.dmem, lcd := Lcd.make s.lcd.width s.lcd.height
      ops := s.ops, openSeqs := s.openSeqs, running := true }

/-- The ROM: fetch steps, the opcode's sequence, the filler. Rules R111 and R112 and R114. -/
def Obligations.RomFunction : Prop :=
  ∀ (P : OpenSeqs) (op : Byte) (f : Flags),
    rom P op 0#3 f = [.w .pc, .maw] ∧ rom P op 1#3 f = [.pgm, .bwMem, .irw, .pcc] ∧
      ∀ mt : BitVec 3, 2 ≤ mt.toNat →
        (mt.toNat - 2 < (seqOf P (formOf op) f).length →
          some (rom P op mt f) = (seqOf P (formOf op) f)[mt.toNat - 2]?) ∧
        ((seqOf P (formOf op) f).length ≤ mt.toNat - 2 → rom P op mt f = [.tr])

/-- No word of the ROM has two bus drivers. Rule R332. -/
def Obligations.OneBusDriver : Prop :=
  (∀ P : OpenSeqs, P.wf = true → ∀ (op : Byte) (mt : BitVec 3) (f : Flags),
      SigSet.oneDriver (rom P op mt f) = true) ∧
    ∀ (s : State) (op : Byte) (mt : BitVec 3) (f : Flags), SigSet.oneDriver (rom s.romSeqs op mt f) = true

/-- Every sequence has the length of its form, ends with _TR and nowhere before, and drives the bus once a step. Rule
R115 and the table of rule R118, which the spec marks as derived from the per-form rules. -/
def Obligations.SequenceShape : Prop :=
  (∀ P : OpenSeqs, P.wf = true → ∀ (op : Byte) (f : Flags),
      (op = 0x00#8 → seqOf P (formOf op) f = [[.hlt]]) ∧
        (op ≠ 0x00#8 → seqShape (formOf op).steps (seqOf P (formOf op) f) = true)) ∧
    ∀ (s : State) (op : Byte) (f : Flags), op ≠ 0x00#8 → s.lacks (formOf op) = false →
      seqShape (formOf op).steps (seqOf s.romSeqs (formOf op) f) = true

/-- Only the conditional jumps depend on the flags. Rule R116, which the spec marks as derived. -/
def Obligations.FlagIndependence : Prop :=
  ∀ (P : OpenSeqs) (op : Byte) (mt : BitVec 3) (f g : Flags),
    (op.toNat < 0x38 ∨ 0x3F < op.toNat) ∨ (mt ≠ 2#3 ∧ mt ≠ 3#3) → rom P op mt f = rom P op mt g

/-- The control word shows each one-bit signal, the bus source, the bus sinks and the ALU mode of its set. Rules R82,
R83, R85, R86 and R87: "Control word (32 bits): a bitwise OR of named signal masks"; the layout is an argument (log
9). -/
def Obligations.ControlWordBits : Prop :=
  ∀ L : Layout, L.wf = true →
    (∀ (S : SigSet) (g : Signal) (p : Nat), bitOf L g = some p → (encodeSet L S).getLsbD p = S.contains g) ∧
      (∀ (S : SigSet) (m : AluMode), Signal.alu m ∈ S → SigSet.oneMode S = true →
        (encodeSet L S).extractLsb' L.aluOffset 3 = m.code) ∧
      (∀ (S : SigSet) (r : Reg), Signal.w r ∈ S → SigSet.oneDriver S = true →
        (encodeSet L S).extractLsb' L.wOffset 3 = r.code) ∧
      (∀ (S : SigSet) (j : Nat), j < 3 →
        ((encodeSet L S).getLsbD (L.rOffset + j) = true ↔ ∃ r : Reg, Signal.r r ∈ S ∧ r.code.getLsbD j = true)) ∧
      (∀ (S : SigSet) (c : BitVec 3), SigSet.oneDriver S = true →
        (.bwMem ∈ S → L.bwMem = .code c → (encodeSet L S).extractLsb' L.wOffset 3 = c) ∧
          (.bwAlu ∈ S → L.bwAlu = .code c → (encodeSet L S).extractLsb' L.wOffset 3 = c)) ∧
      ∀ (S : SigSet) (p : Nat),
        (L.bwMem = .bit p → (L.bwAlu ≠ .bit p → (encodeSet L S).getLsbD p = S.contains .bwMem) ∧
          (.bwMem ∈ S → SigSet.oneDriver S = true → (encodeSet L S).getLsbD p = true ∧
            (encodeSet L S).extractLsb' L.wOffset 3 = 0#3)) ∧
        (L.bwAlu = .bit p → (L.bwMem ≠ .bit p → (encodeSet L S).getLsbD p = S.contains .bwAlu) ∧
          (.bwAlu ∈ S → SigSet.oneDriver S = true → (encodeSet L S).getLsbD p = true ∧
            (encodeSet L S).extractLsb' L.wOffset 3 = 0#3))

/-- A ROM address holds opcode, microtime and flags, and the banks hold the word's bytes in address order. Rules R50
and R119. -/
def Obligations.RomAddressAndBanks : Prop :=
  (∀ (op : Byte) (mt : BitVec 3) (f : Flags),
      addressMt (romAddress op mt f) = mt ∧ addressOp (romAddress op mt f) = op ∧
        addressFlags (romAddress op mt f) = f) ∧
    (∀ a : BitVec 15,
      romAddress (addressOp a) (addressMt a) (addressFlags a) = a ∧ addressMt a = a.extractLsb' 0 3 ∧
        addressOp a = a.extractLsb' 3 8 ∧ (addressFlags a).c = a.getLsbD 11 ∧ (addressFlags a).z = a.getLsbD 12 ∧
        (addressFlags a).o = a.getLsbD 13 ∧ (addressFlags a).n = a.getLsbD 14) ∧
    ∀ (L : Layout) (P : OpenSeqs) (a : BitVec 15),
      romWord L P a = encodeSet L (rom P (addressOp a) (addressMt a) (addressFlags a)) ∧
        bank L P 3 a ++ bank L P 2 a ++ bank L P 1 a ++ bank L P 0 a = romWord L P a ∧
        ∀ k : Fin 4, (bankImage L P k).length = 2 ^ 15 ∧ (bankImage L P k)[a.toNat]? = some (bank L P k a)

/-- What one microstep writes, and that it writes nothing else. Rule R265, and rule R268 for halted; the fields that
no microstep writes are the supplied parameters (rule R322) and the model's own (logs 8 and 12). -/
def Obligations.MicrostepCommit : Prop :=
  ∀ (S : SigSet) (s t : State), commit S s = .next t →
    t.mt = nextMt s.mt S ∧ (.pcc ∈ S → t.pc = s.pc + 1#8) ∧
      (∀ r : Reg, .r r ∉ S → (r = .pc → .pcc ∉ S) → (r = .stp → .stpw ∉ S) → t.reg r = s.reg r) ∧
      (.maw ∉ S → t.mar = s.mar) ∧ (.irw ∉ S → t.ir = s.ir) ∧
      (.alw ∉ S → t.acc = s.acc ∧ t.flags = s.flags) ∧ (.mw ∉ S → t.pmem = s.pmem ∧ t.dmem = s.dmem) ∧
      (.lcd ∉ S → t.lcd = s.lcd) ∧ t.halted = (S.contains .hlt || s.halted) ∧
      t.ops = s.ops ∧ t.openSeqs = s.openSeqs ∧ t.running = s.running ∧
      ∀ v : Byte, busValue S s = some v →
        (∀ r : Reg, .r r ∈ S → t.reg r = some v) ∧ (.stpw ∈ S → t.stp = v) ∧ (.maw ∈ S → t.mar = v) ∧
          (.irw ∈ S → t.ir = v) ∧
          (.alw ∈ S → ∃ out, aluValue S s = some out ∧ t.acc = out.res ∧ t.flags = out.flags) ∧
          (.mw ∈ S → t.load (S.contains .pgm) s.mar = v ∧
            ∀ (pgm : Bool) (a : Byte), pgm ≠ S.contains .pgm ∨ a ≠ s.mar → t.load pgm a = s.load pgm a) ∧
          (.lcd ∈ S → .lcdData ∈ S → t.lcd = s.lcd.writeByte v) ∧
          (.lcd ∈ S → .lcdCommand ∈ S → t.lcd = s.lcd.sendCommand v)

/-- The flags of the four ALU modes, written in ALU steps only. Rule R264. -/
def Obligations.AluResultFlags : Prop :=
  (∀ (a b : Byte) (cin : Bool),
      (∃ out, aluOut .aPlusB a b cin = some out ∧ out.res.toNat = (a.toNat + b.toNat + cin.toNat) % 256 ∧
        out.flags =
          { c := decide (256 ≤ a.toNat + b.toNat + cin.toNat), z := out.res == 0#8, n := out.res.getLsbD 7
            o := a.getLsbD 7 == b.getLsbD 7 && out.res.getLsbD 7 != a.getLsbD 7 }) ∧
      (∃ out, aluOut .aMinusB a b cin = some out ∧
        out.res.toNat = (a.toNat + (b ^^^ 0xFF#8).toNat + cin.toNat) % 256 ∧
        out.flags =
          { c := decide (256 ≤ a.toNat + (b ^^^ 0xFF#8).toNat + cin.toNat), z := out.res == 0#8
            n := out.res.getLsbD 7
            o := a.getLsbD 7 == (b ^^^ 0xFF#8).getLsbD 7 && out.res.getLsbD 7 != a.getLsbD 7 }) ∧
      (∃ out, aluOut .bMinusA a b cin = some out ∧
        out.res.toNat = (b.toNat + (a ^^^ 0xFF#8).toNat + cin.toNat) % 256 ∧
        out.flags =
          { c := decide (256 ≤ b.toNat + (a ^^^ 0xFF#8).toNat + cin.toNat), z := out.res == 0#8
            n := out.res.getLsbD 7
            o := b.getLsbD 7 == (a ^^^ 0xFF#8).getLsbD 7 && out.res.getLsbD 7 != b.getLsbD 7 }) ∧
      (∃ out, aluOut .aAndB a b cin = some out ∧ out.res = a &&& b ∧
        out.flags = { c := false, z := out.res == 0#8, o := false, n := out.res.getLsbD 7 }) ∧
      aluOut .incA a b cin = none ∧ aluOut .aOrB a b cin = none ∧ aluOut .aXorB a b cin = none ∧
      aluOut .notA a b cin = none) ∧
    ∀ (S : SigSet) (s t : State), commit S s = .next t →
      (.alw ∉ S → t.flags = s.flags) ∧
        (.alw ∈ S → ∃ (m : AluMode) (a : Byte) (out : AluOut), .alu m ∈ S ∧ busValue S s = some a ∧
          aluOut m a (if S.contains .alb then s.rb else 0#8) (S.contains .alc) = some out ∧ t.flags = out.flags)

/-- O of a sum is signed overflow. Rule R264: "the usual carry, zero, negative and signed-overflow definitions", which
the spec takes from general knowledge. -/
def Obligations.SignedOverflow : Prop :=
  ∀ (x y : Byte) (cin : Bool),
    (addOut x y cin).overflow = true ↔
      x.toInt + y.toInt + (cin.toNat : Int) < -128 ∨ 127 < x.toInt + y.toInt + (cin.toNat : Int)

/-- A microstep faults exactly in the cases of the harness. Rule R269 (a) to (e); that two drivers and two ALU modes
fault as well is the model's choice (log 16). -/
def Obligations.MicrostepFaults : Prop :=
  ∀ (S : SigSet) (s : State),
    (∃ f, commit S s = .fault f) ↔
      (.w .stpi ∈ S ∨ .w .imm ∈ S ∨ .r .stpi ∈ S ∨ .r .imm ∈ S) ∨
      (∃ a b : Signal, a ∈ S ∧ b ∈ S ∧ a.isDriver = true ∧ b.isDriver = true ∧ a ≠ b) ∨
      ((∃ g : Signal, g ∈ S ∧ Machine.Signal.isSink g = true) ∧ ∀ g : Signal, g ∈ S → g.isDriver = false) ∨
      (.alw ∈ S ∧
        ¬((∃ m : AluMode, .alu m ∈ S ∧ m ∈ [AluMode.aPlusB, .aMinusB, .bMinusA, .aAndB]) ∧
          ∀ m n : AluMode, .alu m ∈ S → .alu n ∈ S → m = n)) ∨
      (.pcc ∈ S ∧ .r .pc ∈ S) ∨ (.lcd ∈ S ∧ (.lcdData ∈ S ↔ .lcdCommand ∈ S))

/-- What a step does with a waiting move of the host, and that the moves before reset make a launch. Rules R220, R222,
R232, R234, R240, R268, R320 to R322 and R338; the queue and the refusal during a run are log 12, the mark of a run is
log 8, the refused resume is log 14, and the launch is log 3. -/
def Obligations.HostMoves : Prop :=
  (∀ (s s' : State) (op : HostOp) (rest : List HostOp), s.ops = op :: rest → s' = { s with ops := rest } →
      (s.running = false →
        (∀ seqs : OpenSupply, op = .supplyOpen seqs → Machine.step s = .next { s' with openSeqs := seqs }) ∧
        (∀ bytes : List Byte, op = .loadProgram bytes →
          Machine.step s = .next { s' with pmem := Memory.load s.pmem 0#8 bytes }) ∧
        (∀ bytes : List Byte, op = .loadData bytes →
          Machine.step s = .next { s' with dmem := Memory.load s.dmem 0#8 bytes }) ∧
        (∀ width height : Nat, op = .lcdNew width height → geometryOk width height = true →
          Machine.step s = .next { s' with lcd := Lcd.make width height }) ∧
        (∀ b : Byte, op = .lcdCommand b → Machine.step s = .next { s' with lcd := s.lcd.sendCommand b }) ∧
        (∀ b : Byte, op = .lcdData b → Machine.step s = .next { s' with lcd := s.lcd.writeByte b }) ∧
        ∀ bytes : List Byte, op = .lcdText bytes →
          Machine.step s = .next { s' with lcd := (bytes.takeWhile (· != 0#8)).foldl Lcd.writeByte s.lcd }) ∧
      (s.running = true → op ≠ .lcdUpdatePixels → op ≠ .resume → op ≠ .reset →
        Machine.step s = .refused .duringRun) ∧
      (op = .lcdUpdatePixels → Machine.step s = .next { s' with lcd := s.lcd.updatePixels }) ∧
      (op = .resume → s.halted = true → Machine.step s = .next { s' with halted := false, mt := s.mt + 1#3 }) ∧
      (op = .resume → s.halted = false → Machine.step s = .refused .resumeNotHalted) ∧
      (op = .reset → Machine.step s = .next (hostReset s'))) ∧
    ∀ (seqs : OpenSupply) (program data : List Byte) (width height : Nat), geometryOk width height = true →
      Host.Core.run Sys2Proof.core 5
          { State.setup with
            ops := [.supplyOpen seqs, .loadProgram program, .loadData data, .lcdNew width height, .reset] } =
        State.launch seqs program data width height
end

