-- ==== Sys2Proof/Laws/Exec.lean ====
section
/-! SUPPORT. What `exec` does, by form: an opcode whose microsteps the spec gives runs its form's sequence, and an OPEN one
runs the sequence supplied for it. So a proof about every opcode of a form needs one case. -/

namespace Sys2Proof.Machine

/-- An opcode of a form that is not OPEN runs the form's sequence. -/
theorem exec_of_form (P : OpenSeqs) (i : Instr) (f : Form) (s : State) (h : i.form = some f) (ho : f.isOpen = false) :
    exec i s = runSeq (seqOf P f) s := by
  cases i <;> cases h <;> first | rfl | cases ho

/-- An opcode of an OPEN form runs the sequence supplied for the form. -/
theorem exec_of_open (i : Instr) (f : Form) (s : State) (h : i.form = some f) (ho : f.isOpen = true) :
    exec i s = runOpen f s := by
  cases i <;> cases h <;> first | (cases ho; done) | rfl

/-- A command class of the LCD's port has no form, and an opcode has one. -/
theorem form_eq_none_iff (i : Instr) : i.form = none ↔ i.space = .lcdCommand := by
  cases i <;> simp [Instr.form, Instr.space]

end Sys2Proof.Machine
end

