-- ==== Sys2Proof/Laws/Memory.lean ====
section
/-! SUPPORT. The laws of a memory: a read after a write, and the canonical form that every memory operation keeps. -/

namespace Sys2Proof.Machine

/-! ### Reading after a write -/

theorem Memory.read_erase_same (m : Memory) (a : Nat) : (m.erase a).read a = Memory.unlisted := by
  induction m with
  | nil => rfl
  | cons cell rest ih =>
    by_cases h : cell.1 = a
    · simpa [Memory.erase, h] using ih
    · simpa [Memory.erase, Memory.read, h] using ih

theorem Memory.read_erase_other (m : Memory) (a b : Nat) (hb : b ≠ a) : (m.erase a).read b = m.read b := by
  induction m with
  | nil => rfl
  | cons cell rest ih =>
    by_cases h : cell.1 = a
    · have : ¬ cell.1 = b := fun hc => hb (hc.symm.trans h)
      simpa [Memory.erase, Memory.read, h, Ne.symm hb] using ih
    · by_cases hc : cell.1 = b
      · simp [Memory.erase, Memory.read, hc, hb]
      · simpa [Memory.erase, Memory.read, h, hc] using ih

theorem Memory.read_place_other (m : Memory) (cell : Host.Cell) (b : Nat) (hb : b ≠ cell.1) :
    (Memory.place cell m).read b = m.read b := by
  induction m with
  | nil => simp [Memory.place, Memory.read, Ne.symm hb]
  | cons first rest ih =>
    by_cases h : cell.1 < first.1
    · simp [Memory.place, Memory.read, h, Ne.symm hb]
    · simp [Memory.place, Memory.read, h, ih]

theorem Memory.read_place_same (m : Memory) (cell : Host.Cell) (h : ∀ c ∈ m, c.1 ≠ cell.1) :
    (Memory.place cell m).read cell.1 = cell.2 := by
  induction m with
  | nil => simp [Memory.place, Memory.read]
  | cons first rest ih =>
    by_cases hlt : cell.1 < first.1
    · simp [Memory.place, Memory.read, hlt]
    · have hf := h first (by simp)
      simpa [Memory.place, Memory.read, hlt, hf] using ih fun c hc => h c (by simp [hc])

/-- A byte reads as what was last written to it. -/
@[simp] theorem Memory.read_write_same (m : Memory) (a : Nat) (v : Byte) : (m.write a v).read a = v := by
  unfold Memory.write
  split
  · next h => rw [Memory.read_erase_same, h]
  · exact Memory.read_place_same _ (a, v) (by simp [Memory.erase])

/-- A write leaves every other byte alone. -/
theorem Memory.read_write_other (m : Memory) (a b : Nat) (v : Byte) (hb : b ≠ a) : (m.write a v).read b = m.read b := by
  unfold Memory.write
  split
  · exact Memory.read_erase_other m a b hb
  · rw [Memory.read_place_other _ _ _ hb, Memory.read_erase_other m a b hb]

/-! ### The canonical form -/

theorem Memory.wf_nil (size : Nat) : Memory.wf size [] = true := rfl

/-- The canonical form, entry by entry. -/
theorem Memory.wf_cons (size : Nat) (cell : Host.Cell) (m : Memory) :
    Memory.wf size (cell :: m) = true ↔
      (∀ c ∈ m, cell.1 < c.1) ∧ cell.1 < size ∧ cell.2 ≠ Memory.unlisted ∧ Memory.wf size m = true := by
  simp only [Memory.wf, Memory.sorted, List.all_cons, Bool.and_eq_true, List.all_eq_true, decide_eq_true_eq, bne_iff_ne]
  tauto

theorem Memory.mem_place {m : Memory} {cell c : Host.Cell} (h : c ∈ Memory.place cell m) : c = cell ∨ c ∈ m := by
  induction m with
  | nil => simpa [Memory.place] using h
  | cons first rest ih =>
    by_cases hlt : cell.1 < first.1
    · simpa [Memory.place, hlt] using h
    · simp only [Memory.place, hlt, if_false, List.mem_cons] at h ⊢
      rcases h with h | h
      · exact .inr (.inl h)
      · exact (ih h).imp_right .inr

/-- Keeping some of the entries keeps the canonical form: erasing one, and CLEAR. -/
theorem Memory.wf_filter {size : Nat} {m : Memory} (p : Host.Cell → Bool) (h : Memory.wf size m = true) :
    Memory.wf size (m.filter p) = true := by
  induction m with
  | nil => rfl
  | cons cell rest ih =>
    obtain ⟨hlt, hsize, hv, hrest⟩ := (Memory.wf_cons size cell rest).1 h
    rw [List.filter_cons]
    split
    · exact (Memory.wf_cons _ _ _).2 ⟨fun c hc => hlt c (List.mem_filter.1 hc).1, hsize, hv, ih hrest⟩
    · exact ih hrest

theorem Memory.wf_place {size : Nat} {m : Memory} {cell : Host.Cell} (h : Memory.wf size m = true)
    (hs : cell.1 < size) (hv : cell.2 ≠ Memory.unlisted) (hne : ∀ c ∈ m, c.1 ≠ cell.1) :
    Memory.wf size (Memory.place cell m) = true := by
  induction m with
  | nil => exact (Memory.wf_cons _ _ _).2 ⟨by simp, hs, hv, rfl⟩
  | cons first rest ih =>
    obtain ⟨hlt, hsize, hfv, hrest⟩ := (Memory.wf_cons size first rest).1 h
    by_cases hc : cell.1 < first.1
    · rw [Memory.place, if_pos hc]
      refine (Memory.wf_cons _ _ _).2 ⟨fun c hmem => ?_, hs, hv, h⟩
      rcases List.mem_cons.1 hmem with rfl | hmem
      · exact hc
      · exact hc.trans (hlt c hmem)
    · rw [Memory.place, if_neg hc]
      have hfirst : first.1 < cell.1 := by
        have := hne first (by simp)
        omega
      refine (Memory.wf_cons _ _ _).2 ⟨fun c hmem => ?_, hsize, hfv, ih hrest fun c hm => hne c (by simp [hm])⟩
      rcases Memory.mem_place hmem with rfl | hm
      · exact hfirst
      · exact hlt c hm

/-- A write inside the memory keeps the canonical form. -/
theorem Memory.wf_write {size : Nat} {m : Memory} {a : Nat} {v : Byte} (h : Memory.wf size m = true) (ha : a < size) :
    Memory.wf size (m.write a v) = true := by
  unfold Memory.write
  split
  · exact Memory.wf_filter _ h
  · next hv => exact Memory.wf_place (Memory.wf_filter _ h) ha hv (by simp [Memory.erase])

/-- Loading bytes keeps the canonical form of a 256-byte memory. -/
theorem Memory.wf_load {m : Memory} (bytes : List Byte) (a : Byte) (h : Memory.wf 256 m = true) :
    Memory.wf 256 (Memory.load m a bytes) = true := by
  induction bytes generalizing m a with
  | nil => exact h
  | cons v rest ih => exact ih _ (Memory.wf_write h (by omega))

/-- An address below every listed one is not listed. -/
theorem Memory.read_eq_unlisted_of_lt {m : Memory} {a : Nat} (h : ∀ c ∈ m, a < c.1) :
    m.read a = Memory.unlisted := by
  induction m with
  | nil => rfl
  | cons cell rest ih =>
    have hc := h cell (by simp)
    have : cell.1 ≠ a := by omega
    simpa [Memory.read, this] using ih fun c hm => h c (by simp [hm])

/-- CLEAR's filter zeroes every byte below `size` (rule R231). -/
theorem Memory.read_filter_below {m : Memory} {size a : Nat} (ha : a < size) :
    Memory.read (m.filter fun cell => decide (size ≤ cell.1)) a = Memory.unlisted := by
  induction m with
  | nil => rfl
  | cons cell rest ih =>
    by_cases h : size ≤ cell.1
    · have : cell.1 ≠ a := by omega
      simpa [List.filter_cons, h, Memory.read, this] using ih
    · simpa [List.filter_cons, h] using ih

/-! ### The memories of the machine -/

/-- A data or program byte that was just stored. -/
theorem State.load_store_same (s : State) (pgm : Bool) (a v : Byte) : (s.store pgm a v).load pgm a = v := by
  cases pgm <;> exact Memory.read_write_same _ _ _

/-- A store to one memory leaves the other one alone. -/
theorem State.load_store_memory (s : State) (pgm q : Bool) (a b v : Byte) (h : q ≠ pgm) :
    (s.store pgm a v).load q b = s.load q b := by
  cases pgm <;> cases q <;> first | rfl | exact absurd rfl h

/-- A store leaves every other byte alone. -/
theorem State.load_store_other (s : State) (pgm q : Bool) (a b v : Byte) (h : b ≠ a) :
    (s.store pgm a v).load q b = s.load q b := by
  have hn : b.toNat ≠ a.toNat := fun hb => h (BitVec.eq_of_toNat_eq hb)
  cases pgm <;> cases q <;> first | rfl | exact Memory.read_write_other _ _ _ _ hn

theorem State.reset_memory_wf : Memory.wf 256 State.reset.pmem = true ∧ Memory.wf 256 State.reset.dmem = true :=
  ⟨rfl, rfl⟩

end Sys2Proof.Machine
end

