-- ==== Sys2Proof/Laws/Ops.lean ====
section
/-! SUPPORT. What each shared operation can do, said once: the commit of a microstep, the run of a sequence, fetch, halt
and resume, the launch, a host move and a step. -/

namespace Sys2Proof.Machine

/-! ### One microstep -/

/-- A microstep answers a next state exactly when its set has no harness fault, and then it is `applySet`. -/
theorem commit_next_iff (S : SigSet) (s t : State) : commit S s = .next t ↔ faultOf S = none ∧ t = applySet S s := by
  unfold commit
  cases h : faultOf S <;> simp [eq_comm]

/-- A microstep faults exactly when its set does. -/
theorem commit_fault_iff (S : SigSet) (s : State) (f : Fault) : commit S s = .fault f ↔ faultOf S = some f := by
  unfold commit
  cases h : faultOf S <;> simp

/-- No microstep is refused. -/
theorem commit_not_refused (S : SigSet) (s : State) (e : Refusal) : commit S s ≠ .refused e := by
  unfold commit
  cases h : faultOf S <;> simp

/-! ### Sequencing -/

@[simp] theorem andThen_next (s : State) (f : State → Result) : andThen (.next s) f = f s := rfl
@[simp] theorem andThen_fault (e : Fault) (f : State → Result) : andThen (.fault e) f = .fault e := rfl
@[simp] theorem andThen_refused (e : Refusal) (f : State → Result) : andThen (.refused e) f = .refused e := rfl

/-- A composition answers a next state exactly when both parts do. -/
theorem andThen_next_iff (r : Result) (f : State → Result) (t : State) :
    andThen r f = .next t ↔ ∃ s, r = .next s ∧ f s = .next t := by
  cases r <;> simp

/-- One more microstep of a sequence. -/
theorem runFrom_succ (q : Flags → List SigSet) (fuel k : Nat) (s : State) :
    runFrom q (fuel + 1) k s =
      andThen (commit (((q s.flags)[k]?).getD filler) s) fun t =>
        if endsRun (((q s.flags)[k]?).getD filler) then .next t else runFrom q fuel (k + 1) t := rfl

/-- A microstep that does not end the instruction: the run goes on. -/
theorem runFrom_step (q : Flags → List SigSet) (fuel k : Nat) (s : State) (S : SigSet) (hS : (q s.flags)[k]? = some S)
    (he : endsRun S = false) : runFrom q (fuel + 1) k s = andThen (commit S s) (runFrom q fuel (k + 1)) := by
  simp [runFrom_succ, hS, he]

/-- The microstep that ends the instruction is the last one of the run. -/
theorem runFrom_last (q : Flags → List SigSet) (fuel k : Nat) (s : State) (S : SigSet) (hS : (q s.flags)[k]? = some S)
    (he : endsRun S = true) : runFrom q (fuel + 1) k s = commit S s := by
  rw [runFrom_succ, hS]
  simp only [Option.getD_some, he, if_true]
  cases commit S s <;> rfl

/-- What every microstep keeps, the run of a sequence keeps. -/
theorem runFrom_keeps {p : State → Prop} (hp : ∀ S s t, p s → commit S s = .next t → p t) (q : Flags → List SigSet) :
    ∀ fuel k s t, p s → runFrom q fuel k s = .next t → p t
  | 0, _, s, t, hs, h => by cases h; exact hs
  | fuel + 1, k, s, t, hs, h => by
    rw [runFrom_succ, andThen_next_iff] at h
    obtain ⟨u, hu, h⟩ := h
    have hpu := hp _ _ _ hs hu
    split at h
    · cases h; exact hpu
    · exact runFrom_keeps hp q fuel (k + 1) u t hpu h

/-- Everything a microstep of the machine can do when it answers a next state: nothing on a halted machine, else the
commit of the ROM's word, which an OPEN opcode without its parameter lacks. -/
theorem microstep_next_iff (s t : State) :
    microstep s = .next t ↔
      (s.halted = true ∧ t = s) ∨
        (s.halted = false ∧ ¬(2 ≤ s.mt.toNat ∧ s.lacks (formOf s.ir) = true) ∧
          commit (rom s.romSeqs s.ir s.mt s.flags) s = .next t) := by
  cases hh : s.halted
  · by_cases hl : 2 ≤ s.mt.toNat ∧ s.lacks (formOf s.ir) = true
    · have : microstep s = .fault .openUnsupplied := by rw [microstep, if_neg (by simp [hh]), if_pos hl]
      simp [this, hl]
    · have : microstep s = commit (rom s.romSeqs s.ir s.mt s.flags) s := by
        rw [microstep, if_neg (by simp [hh]), if_neg hl]
      rw [this]
      exact ⟨fun h => .inr ⟨rfl, hl, h⟩, fun h => h.elim (fun h => nomatch h.1) fun h => h.2.2⟩
  · have : microstep s = .next s := by rw [microstep, if_pos hh]
    rw [this]
    exact ⟨fun h => .inl ⟨rfl, (Host.Outcome.next.inj h).symm⟩,
      fun h => h.elim (fun h => congrArg _ h.2.symm) fun h => nomatch h.1⟩

/-- What every step of a fixed sequence keeps, and the filler with them, the run of the sequence keeps. -/
theorem runFixed_keeps {p : State → Prop} (q : List SigSet)
    (hp : ∀ S s t, S ∈ q ∨ S = filler → p s → commit S s = .next t → p t) (s t : State) (hs : p s)
    (h : runFixed q s = .next t) : p t := by
  have main : ∀ fuel k s t, p s → runFrom (fun _ => q) fuel k s = .next t → p t := by
    intro fuel
    induction fuel with
    | zero => intro k s t hs h; cases h; exact hs
    | succ fuel ih =>
      intro k s t hs h
      rw [runFrom_succ, andThen_next_iff] at h
      obtain ⟨u, hu, h⟩ := h
      have hS : q[k]?.getD filler ∈ q ∨ q[k]?.getD filler = filler := by
        cases hk : q[k]? with
        | none => exact .inr rfl
        | some S => exact .inl (List.mem_of_getElem? hk)
      have hpu := hp _ _ _ hS hs hu
      split at h
      · cases h; exact hpu
      · exact ih (k + 1) u t hpu h
  exact main 6 0 s t hs h

/-- What every microstep keeps, the run of microsteps to the instruction's end keeps. -/
theorem runMicro_keeps {p : State → Prop} (hp : ∀ S s t, p s → commit S s = .next t → p t) :
    ∀ fuel s t, p s → runMicro fuel s = .next t → p t
  | 0, s, t, hs, h => by cases h; exact hs
  | fuel + 1, s, t, hs, h => by
    rw [runMicro, andThen_next_iff] at h
    obtain ⟨u, hu, h⟩ := h
    have hpu : p u := by
      obtain ⟨_, rfl⟩ | ⟨_, _, hu⟩ := (microstep_next_iff s u).1 hu
      · exact hs
      · exact hp _ _ _ hs hu
    split at h
    · cases h; exact hpu
    · exact runMicro_keeps hp fuel u t hpu h

/-! ### Fetch -/

/-- The fetch at an instruction boundary. -/
theorem fetch_boundary (s : State) (h : s.mt = 0#3) :
    fetch s = .next { s with mar := s.pc, ir := s.load true s.pc, pc := s.pc + 1#8, mt := 2#3 } := by
  cases s
  cases h
  rfl

/-- A fetch never stops. -/
theorem fetch_next (s : State) : ∃ t, fetch s = .next t := by
  unfold fetch
  split <;> exact ⟨_, rfl⟩

/-- Past microtime 1 nothing is left to fetch. -/
theorem fetch_done (s : State) (h : 2 ≤ s.mt.toNat) : fetch s = .next s := by
  unfold fetch
  split <;> first | rfl | omega

/-! ### Halt, resume and launch -/

theorem resume_next_iff (s t : State) :
    resume s = .next t ↔ s.halted = true ∧ t = { s with halted := false, mt := s.mt + 1#3 } := by
  cases hh : s.halted
  · simp [resume, hh]
  · rw [resume, if_pos hh]
    exact ⟨fun h => ⟨rfl, (Host.Outcome.next.inj h).symm⟩, fun h => congrArg _ h.2.symm⟩

theorem launch_next_iff (seqs : OpenSupply) (program data : List Byte) (width height : Nat) (t : State) :
    State.launch seqs program data width height = .next t ↔
      geometryOk width height = true ∧
        t = { State.reset with
              pmem := Memory.load [] 0#8 program
              dmem := Memory.load [] 0#8 data
              lcd := Lcd.make width height
              openSeqs := seqs } := by
  cases hg : geometryOk width height
  · simp [State.launch, Lcd.new?, hg]
  · rw [State.launch, Lcd.new?, if_pos hg]
    exact ⟨fun h => ⟨rfl, (Host.Outcome.next.inj h).symm⟩, fun h => congrArg _ h.2.symm⟩

/-! ### The supplied OPEN parameters -/

/-- A parameter is admitted exactly when it is supplied in the shape its rule asks for. -/
theorem admitted_eq_some_iff (shape : List SigSet → Bool) (o : Option (List SigSet)) (q : List SigSet) :
    admitted shape o = some q ↔ o = some q ∧ shape q = true := by
  simp [admitted, Option.filter_eq_some_iff]

/-! ### Host moves -/

/-- A move that the host has outside a run only answers a next state exactly outside a run and when it does there. -/
theorem outsideRun_next_iff (s t : State) (r : Result) :
    outsideRun s r = .next t ↔ s.running = false ∧ r = .next t := by
  unfold outsideRun
  cases s.running <;> simp

/-- Everything a host move can do when it answers a next state. -/
theorem hostMove_next (op : HostOp) (s t : State) (h : hostMove op s = .next t) :
    (s.running = false ∧
      ((∃ seqs, op = .supplyOpen seqs ∧ t = { s with openSeqs := seqs }) ∨
       (∃ bytes, op = .loadProgram bytes ∧ t = { s with pmem := Memory.load s.pmem 0#8 bytes }) ∨
       (∃ bytes, op = .loadData bytes ∧ t = { s with dmem := Memory.load s.dmem 0#8 bytes }) ∨
       (∃ width height, op = .lcdNew width height ∧ geometryOk width height = true ∧
         t = s.setLcd (Lcd.make width height)) ∨
       (∃ b, op = .lcdCommand b ∧ exec (decodeCommand b) s = .next t) ∨
       (∃ b, op = .lcdData b ∧ t = s.setLcd (s.lcd.writeByte b)) ∨
       (∃ bytes, op = .lcdText bytes ∧ t = s.setLcd (s.lcd.writeString bytes)))) ∨
    (op = .lcdUpdatePixels ∧ t = s.setLcd s.lcd.updatePixels) ∨
    (op = .resume ∧ s.halted = true ∧ t = { s with halted := false, mt := s.mt + 1#3 }) ∨
    (op = .reset ∧ t = hostReset s) := by
  cases op with
  | supplyOpen seqs =>
    obtain ⟨hr, h⟩ := (outsideRun_next_iff _ _ _).1 h
    cases h; exact .inl ⟨hr, .inl ⟨seqs, rfl, rfl⟩⟩
  | loadProgram bytes =>
    obtain ⟨hr, h⟩ := (outsideRun_next_iff _ _ _).1 h
    cases h; exact .inl ⟨hr, .inr (.inl ⟨bytes, rfl, rfl⟩)⟩
  | loadData bytes =>
    obtain ⟨hr, h⟩ := (outsideRun_next_iff _ _ _).1 h
    cases h; exact .inl ⟨hr, .inr (.inr (.inl ⟨bytes, rfl, rfl⟩))⟩
  | lcdNew width height =>
    obtain ⟨hr, h⟩ := (outsideRun_next_iff _ _ _).1 h
    simp only [Lcd.new?] at h
    by_cases hg : geometryOk width height = true
    · rw [if_pos hg] at h
      cases h; exact .inl ⟨hr, .inr (.inr (.inr (.inl ⟨width, height, rfl, hg, rfl⟩)))⟩
    · rw [if_neg hg] at h
      cases h
  | lcdCommand b =>
    obtain ⟨hr, h⟩ := (outsideRun_next_iff _ _ _).1 h
    exact .inl ⟨hr, .inr (.inr (.inr (.inr (.inl ⟨b, rfl, h⟩))))⟩
  | lcdData b =>
    obtain ⟨hr, h⟩ := (outsideRun_next_iff _ _ _).1 h
    cases h; exact .inl ⟨hr, .inr (.inr (.inr (.inr (.inr (.inl ⟨b, rfl, rfl⟩)))))⟩
  | lcdText bytes =>
    obtain ⟨hr, h⟩ := (outsideRun_next_iff _ _ _).1 h
    cases h; exact .inl ⟨hr, .inr (.inr (.inr (.inr (.inr (.inr ⟨bytes, rfl, rfl⟩)))))⟩
  | lcdUpdatePixels => cases h; exact .inr (.inl ⟨rfl, rfl⟩)
  | resume =>
    obtain ⟨hh, rfl⟩ := (resume_next_iff s t).1 h
    exact .inr (.inr (.inl ⟨rfl, hh, rfl⟩))
  | reset => cases h; exact .inr (.inr (.inr ⟨rfl, rfl⟩))

/-! ### One step -/

/-- Everything a step can do when it answers a next state. -/
theorem step_next (s t : State) (h : step s = .next t) :
    (∃ op rest, s.ops = op :: rest ∧ hostMove op { s with ops := rest } = .next t) ∨
    (s.ops = [] ∧ (s.halted = true ∨ s.running = false) ∧ t = s) ∨
    (s.ops = [] ∧ s.halted = false ∧ s.running = true ∧ s.mt.toNat ≤ 2 ∧
      ∃ u, fetch s = .next u ∧ exec (decodeOpcode u.ir) u = .next t) ∨
    (s.ops = [] ∧ s.halted = false ∧ s.running = true ∧ 2 < s.mt.toNat ∧ runMicro 8 s = .next t) := by
  unfold step at h
  split at h
  · next op rest hops => exact .inl ⟨op, rest, hops, h⟩
  · next hops =>
    split at h
    · next hh => cases h; exact .inr (.inl ⟨hops, by simpa using hh, rfl⟩)
    · next hh =>
      obtain ⟨hf, hr⟩ : s.halted = false ∧ s.running = true := by simpa using hh
      split at h
      · next hm =>
        obtain ⟨u, hu, he⟩ := (andThen_next_iff _ _ _).1 h
        exact .inr (.inr (.inl ⟨hops, hf, hr, hm, u, hu, he⟩))
      · next hm => exact .inr (.inr (.inr ⟨hops, hf, hr, by omega, h⟩))

end Sys2Proof.Machine
end

