-- ==== Sys2Proof/Laws/Open.lean ====
section
/-! SUPPORT. The OPEN instructions (rules R153, R157, R183, R184, R269 (f)): what the run of the ROM's words from microtime 2
on can do, and that it is the fold of the parameter's steps where the opcode is kept. -/

namespace Sys2Proof.Machine

/-! ### Sequences of the shape of rule R115 -/

/-- A sequence of the shape has its length, and `_TR` in its last step and nowhere before. -/
theorem seqShape_spec {n : Nat} {q : List SigSet} (h : seqShape n q = true) :
    q.length = n ∧ 1 ≤ n ∧ n ≤ 6 ∧ (∀ S ∈ q, SigSet.oneDriver S = true) ∧
      ∀ k S, q[k]? = some S → (S.contains .tr = true ↔ k + 1 = n) := by
  simp only [seqShape, Bool.and_eq_true, beq_iff_eq, decide_eq_true_eq] at h
  obtain ⟨⟨⟨⟨⟨hn, h1, h6⟩, hdrop⟩, hlast⟩, hdrv⟩, -⟩ := h
  refine ⟨hn, h1, h6, List.all_eq_true.1 hdrv, fun k S hk => ?_⟩
  obtain ⟨hlt, hS⟩ := List.getElem?_eq_some_iff.1 hk
  constructor
  · intro ht
    by_contra hne
    have hk' : k < q.dropLast.length := by rw [List.length_dropLast]; omega
    have hmem : S ∈ q.dropLast := List.mem_iff_getElem.2 ⟨k, hk', by rw [List.getElem_dropLast, hS]⟩
    have := List.all_eq_true.1 hdrop S hmem
    rw [ht] at this
    cases this
  · intro hkn
    have : q.getLast? = some S := by rw [List.getLast?_eq_getElem?, ← hk]; congr 1; omega
    rw [this] at hlast
    exact hlast

/-- No step of a faultless sequence faults. -/
theorem seqFaultless_iff (q : List SigSet) : seqFaultless q = true ↔ ∀ S ∈ q, faultOf S = none := by
  simp [seqFaultless]

/-! ### The steps of a sequence, one after the other -/

@[simp] theorem afterSteps_nil (s : State) : afterSteps [] s = s := rfl
@[simp] theorem afterSteps_cons (S : SigSet) (q : List SigSet) (s : State) :
    afterSteps (S :: q) s = afterSteps q (applySet S s) := rfl
theorem afterSteps_append (p q : List SigSet) (s : State) : afterSteps (p ++ q) s = afterSteps q (afterSteps p s) :=
  List.foldl_append

/-- What every step keeps, the steps of a sequence keep. -/
theorem afterSteps_keeps {p : State → Prop} (q : List SigSet) (hp : ∀ S ∈ q, ∀ s, p s → p (applySet S s)) (s : State)
    (hs : p s) : p (afterSteps q s) := by
  induction q generalizing s with
  | nil => exact hs
  | cons S rest ih =>
    exact ih (fun S' h => hp S' (List.mem_cons_of_mem _ h)) _ (hp S List.mem_cons_self _ hs)

/-- The steps of a sequence of the shape leave the counter at 0. -/
theorem afterSteps_mt {n : Nat} {q : List SigSet} (hq : seqShape n q = true) (s : State) : (afterSteps q s).mt = 0#3 := by
  obtain ⟨hn, h1, -, -, htr⟩ := seqShape_spec hq
  have hne : q ≠ [] := by rintro rfl; simp only [List.length_nil] at hn; omega
  have hl : q.length - 1 < q.length := by omega
  rw [← List.dropLast_append_getLast hne, afterSteps_append, afterSteps_cons, afterSteps_nil]
  have : (q.getLast hne).contains .tr = true := by
    rw [List.getLast_eq_getElem]
    exact (htr _ _ (List.getElem?_eq_getElem hl)).2 (by omega)
  show nextMt _ _ = _
  rw [nextMt, if_pos this]

@[simp] theorem keepsOpcode_nil (f : Form) (s : State) : keepsOpcode f [] s = true := rfl

/-- What the opcode's being kept says of the first step and of the rest. -/
theorem keepsOpcode_cons_iff (f : Form) (S : SigSet) (rest : List SigSet) (s : State) :
    keepsOpcode f (S :: rest) s = true ↔
      (rest = [] ∨ S.contains .irw = false ∨ formOf (applySet S s).ir = f) ∧
        keepsOpcode f rest (applySet S s) = true := by
  simp [keepsOpcode, or_assoc]

/-- A sequence without `_IRW` keeps the opcode. -/
theorem keepsOpcode_of_without {q : List SigSet} (h : seqWithout .irw q = true) (f : Form) (s : State) :
    keepsOpcode f q s = true := by
  induction q generalizing s with
  | nil => rfl
  | cons S rest ih =>
    simp only [seqWithout, List.all_cons, Bool.and_eq_true, Bool.not_eq_true'] at h
    exact (keepsOpcode_cons_iff _ _ _ _).2 ⟨.inr (.inl h.1), ih (by simpa [seqWithout] using h.2) _⟩

/-! ### The supplied parameters -/

/-- Which sequence is supplied for an OPEN form: one in the form's shape, of the form's number of steps, without `HLT`. -/
theorem openSeq_spec {s : State} {f : Form} {q : List SigSet} (h : s.openSeq f = some q) :
    seqShape f.steps q = true ∧ seqWithout .hlt q = true := by
  cases f <;> simp only [State.openSeq, admitted_eq_some_iff, reduceCtorEq] at h
  all_goals
    obtain ⟨-, hs⟩ := h
    simp only [lccImmShape, lccPgmShape, calliShape, stoiShape, Bool.and_eq_true] at hs
    refine ⟨?_, ?_⟩ <;> simp only [Form.steps, hs]

/-- A form with a supplied sequence does not lack its words. -/
theorem lacks_of_openSeq {s : State} {f : Form} {q : List SigSet} (h : s.openSeq f = some q) : s.lacks f = false := by
  simp [State.lacks, h]

/-- The ROM of the machine holds the sequence supplied for an OPEN form. -/
theorem seqOf_romSeqs {s : State} {f : Form} {q : List SigSet} (h : s.openSeq f = some q) (fl : Flags) :
    seqOf s.romSeqs f fl = q := by
  cases f <;> first | cases h | simp only [seqOf, State.romSeqs, h, Option.getD_some]

/-- No microstep writes what is supplied. -/
@[simp] theorem applySet_openSeq (S : SigSet) (s : State) (f : Form) : (applySet S s).openSeq f = s.openSeq f := by
  cases f <;> rfl

/-- A sequence of the shape without `HLT`: past its first word there is none in the ROM, and the word at microtime 7 ends
the instruction. -/
theorem word_of_shape {n : Nat} {q : List SigSet} (hq : seqShape n q = true) (hh : seqWithout .hlt q = true) (k : Nat) :
    (q[k]?.getD filler).contains .hlt = false ∧ (5 ≤ k → (q[k]?.getD filler).contains .tr = true) := by
  obtain ⟨hn, -, h6, -, htr⟩ := seqShape_spec hq
  cases hk : q[k]? with
  | none => exact ⟨rfl, fun _ => rfl⟩
  | some S =>
    obtain ⟨hlt, -⟩ := List.getElem?_eq_some_iff.1 hk
    have : S.contains .hlt = false := by simpa using List.all_eq_true.1 hh _ (List.mem_of_getElem? hk)
    exact ⟨this, fun h => (htr k S hk).2 (by omega)⟩

/-- No word of the ROM past microtime 2 holds `HLT`, and every word at microtime 7 ends its instruction (rule R115). -/
theorem word_late {s : State} {f : Form} (hl : s.lacks f = false) (fl : Flags) (k : Nat) (hk : 1 ≤ k) :
    (((seqOf s.romSeqs f fl)[k]?).getD filler).contains .hlt = false ∧
      (5 ≤ k → (((seqOf s.romSeqs f fl)[k]?).getD filler).contains .tr = true) := by
  by_cases ho : f.isOpen = true
  · rw [State.lacks, ho, Bool.true_and] at hl
    cases h : s.openSeq f with
    | none => rw [h] at hl; cases hl
    | some q =>
      rw [seqOf_romSeqs h]
      exact word_of_shape (openSeq_spec h).1 (openSeq_spec h).2 k
  · obtain ⟨k, rfl⟩ : ∃ j, k = j + 1 := ⟨k - 1, by omega⟩
    cases f with
    | lccPgm | lccImm | calli | stoiImm => exact absurd rfl ho
    | condJump c =>
      simp only [seqOf, seqCondJump]
      split <;> rcases k with _ | _ | _ | _ | _ | k <;> exact ⟨rfl, fun _ => rfl⟩
    | lod d r => cases r <;> rcases k with _ | _ | _ | _ | _ | k <;> exact ⟨rfl, fun _ => rfl⟩
    | sto d r => cases d <;> rcases k with _ | _ | _ | _ | _ | k <;> exact ⟨rfl, fun _ => rfl⟩
    | _ => rcases k with _ | _ | _ | _ | _ | k <;> exact ⟨rfl, fun _ => by first | rfl | omega⟩

/-! ### The run of the ROM's words -/

/-- One more microstep of a run with its words in the ROM. -/
theorem runRom_succ {form : Form} {s : State} (hl : s.lacks form = false) (fuel k : Nat) :
    runRom (fuel + 1) k form s =
      andThen (commit (((seqOf s.romSeqs form s.flags)[k]?).getD filler) s) fun t =>
        if endsRun (((seqOf s.romSeqs form s.flags)[k]?).getD filler) then .next t
        else runRom fuel (k + 1)
          (if (((seqOf s.romSeqs form s.flags)[k]?).getD filler).contains .irw then formOf t.ir else form) t := by
  rw [runRom, if_neg (by simp [hl])]

/-- A run whose words the ROM lacks faults (rule R269 (f)). -/
theorem runRom_lacks {form : Form} {s : State} (hl : s.lacks form = true) (fuel k : Nat) :
    runRom (fuel + 1) k form s = .fault .openUnsupplied := by
  rw [runRom, if_pos hl]

/-- What every microstep keeps, the run of the ROM's words keeps. -/
theorem runRom_keeps {p : State → Prop} (hp : ∀ S s t, p s → commit S s = .next t → p t) :
    ∀ fuel k form s t, p s → runRom fuel k form s = .next t → p t
  | 0, _, _, s, t, hs, h => by cases h; exact hs
  | fuel + 1, k, form, s, t, hs, h => by
    cases hl : s.lacks form with
    | true => rw [runRom_lacks hl] at h; cases h
    | false =>
      rw [runRom_succ hl, andThen_next_iff] at h
      obtain ⟨u, hu, h⟩ := h
      have hpu := hp _ _ _ hs hu
      split at h
      · cases h; exact hpu
      · exact runRom_keeps hp fuel (k + 1) _ u t hpu h

/-- A run of the ROM's words is never refused. -/
theorem runRom_not_refused : ∀ fuel k form s (e : Refusal), runRom fuel k form s ≠ .refused e
  | 0, _, _, _, _ => nofun
  | fuel + 1, k, form, s, e => by
    cases hl : s.lacks form with
    | true => rw [runRom_lacks hl]; nofun
    | false =>
      rw [runRom_succ hl]
      cases hc : commit (((seqOf s.romSeqs form s.flags)[k]?).getD filler) s with
      | next t =>
        rw [andThen_next]
        split
        · nofun
        · exact runRom_not_refused fuel (k + 1) _ t e
      | fault f => nofun
      | refused r => exact absurd hc (commit_not_refused _ _ _)

/-- A run whose words hold no `HLT` and that has the microsteps up to microtime 7 ends with the counter at 0. -/
theorem runRom_ends :
    ∀ fuel k form s t, 6 ≤ k + fuel → k ≤ 5 →
      (k = 0 → (((seqOf s.romSeqs form s.flags)[k]?).getD filler).contains .hlt = false) →
      runRom fuel k form s = .next t → t.mt = 0#3 ∧ t.halted = s.halted
  | 0, k, _, _, _, hf, hk, _, _ => by omega
  | fuel + 1, k, form, s, t, hf, hk, h0, h => by
    cases hl : s.lacks form with
    | true => rw [runRom_lacks hl] at h; cases h
    | false =>
      have hw := word_late hl s.flags k
      rw [runRom_succ hl, andThen_next_iff] at h
      obtain ⟨u, hu, h⟩ := h
      generalize (((seqOf s.romSeqs form s.flags)[k]?).getD filler) = S at h0 hw hu h
      have hhlt : S.contains .hlt = false := by
        by_cases hk0 : k = 0
        · exact h0 hk0
        · exact (hw (by omega)).1
      obtain ⟨-, rfl⟩ := (commit_next_iff _ _ _).1 hu
      have hhalt : (applySet S s).halted = s.halted := by
        show (S.contains .hlt || s.halted) = s.halted
        rw [hhlt, Bool.false_or]
      split at h
      · next he =>
        cases h
        have htr : S.contains .tr = true := by rwa [endsRun, hhlt, Bool.or_false] at he
        refine ⟨?_, hhalt⟩
        show nextMt _ _ = _
        rw [nextMt, if_pos htr]
      · next he =>
        have h5 : k ≠ 5 := by
          intro h5
          have := (hw (by omega)).2 (by omega)
          simp only [endsRun, this, Bool.true_or, not_true_eq_false] at he
        rw [← hhalt]
        exact runRom_ends fuel (k + 1) _ _ t (by omega) (by omega) (by omega) h

/-- An OPEN instruction that answers a next state has come to its end: the counter is 0, and nothing has halted. -/
theorem runOpen_ends {f : Form} (ho : f.isOpen = true) {s t : State} (h : runOpen f s = .next t) :
    t.mt = 0#3 ∧ t.halted = s.halted := by
  refine runRom_ends 6 0 f s t (by omega) (by omega) (fun _ => ?_) h
  cases hq : s.openSeq f with
  | none =>
    have hl : s.lacks f = true := by simp [State.lacks, ho, hq]
    rw [runOpen, runRom_lacks hl] at h
    cases h
  | some q =>
    rw [seqOf_romSeqs hq]
    exact (word_of_shape (openSeq_spec hq).1 (openSeq_spec hq).2 0).1

/-- An OPEN instruction without its parameter faults (rule R269 (f)). -/
theorem runOpen_lacks {s : State} {f : Form} (h : s.lacks f = true) : runOpen f s = .fault .openUnsupplied :=
  runRom_lacks h 5 0

/-- Where its steps keep the opcode and none faults, a parameter's run does them in order, and nothing after them. -/
theorem runRom_eq_afterSteps {f : Form} {q : List SigSet} (hf : seqFaultless q = true) :
    ∀ fuel k s, s.openSeq f = some q → k < q.length → q.length ≤ k + fuel → keepsOpcode f (q.drop k) s = true →
      runRom fuel k f s = .next (afterSteps (q.drop k) s) := by
  intro fuel
  induction fuel with
  | zero => intro k s _ hk hfuel; omega
  | succ fuel ih =>
    intro k s hs hlt hfuel hkeep
    obtain ⟨hshape, hhlt⟩ := openSeq_spec hs
    obtain ⟨hn, -, -, -, htr⟩ := seqShape_spec hshape
    have hmem : q[k] ∈ q := List.getElem_mem hlt
    have hw : ((seqOf s.romSeqs f s.flags)[k]?).getD filler = q[k] := by
      rw [seqOf_romSeqs hs, List.getElem?_eq_getElem hlt, Option.getD_some]
    have hc : commit q[k] s = .next (applySet q[k] s) :=
      (commit_next_iff _ _ _).2 ⟨(seqFaultless_iff q).1 hf _ hmem, rfl⟩
    have hhl : q[k].contains .hlt = false := by simpa using List.all_eq_true.1 hhlt _ hmem
    rw [List.drop_eq_getElem_cons hlt, keepsOpcode_cons_iff] at hkeep
    rw [runRom_succ (lacks_of_openSeq hs), hw, hc, andThen_next, List.drop_eq_getElem_cons hlt, afterSteps_cons]
    by_cases hkn : k + 1 = q.length
    · have he : endsRun q[k] = true := by
        simp only [endsRun, (htr k _ (List.getElem?_eq_getElem hlt)).2 (by omega), Bool.true_or]
      rw [if_pos he, List.drop_eq_nil_of_le (by omega), afterSteps_nil]
    · have ht : q[k].contains .tr = false := by
        cases h : q[k].contains .tr
        · rfl
        · exact absurd ((htr k _ (List.getElem?_eq_getElem hlt)).1 h) (by omega)
      have hform : (if q[k].contains .irw then formOf (applySet q[k] s).ir else f) = f := by
        rcases hkeep.1 with h | h | h
        · exact absurd (congrArg List.length h) (by simp only [List.length_drop, List.length_nil]; omega)
        · rw [h]; rfl
        · rw [h, ite_self]
      rw [if_neg (by simp only [endsRun, ht, hhl, Bool.or_self]; exact Bool.false_ne_true), hform]
      exact ih (k + 1) _ (by rw [applySet_openSeq, hs]) (by omega) (by omega) hkeep.2

/-- An OPEN instruction whose parameter keeps the opcode and has no faulting step completes, with the parameter's steps done
in order. -/
theorem runOpen_eq_afterSteps {s : State} {f : Form} {q : List SigSet} (h : s.openSeq f = some q)
    (hf : seqFaultless q = true) (hk : keepsOpcode f q s = true) : runOpen f s = .next (afterSteps q s) := by
  obtain ⟨hn, h1, h6, -, -⟩ := seqShape_spec (openSeq_spec h).1
  exact runRom_eq_afterSteps hf 6 0 s h (by omega) (by omega) hk

/-- Where its steps keep the opcode, a next state of a parameter's run is the one after its steps in order. -/
theorem runRom_next_eq_afterSteps {f : Form} {q : List SigSet} :
    ∀ fuel k s t, s.openSeq f = some q → k < q.length → q.length ≤ k + fuel → keepsOpcode f (q.drop k) s = true →
      runRom fuel k f s = .next t → t = afterSteps (q.drop k) s := by
  intro fuel
  induction fuel with
  | zero => intro k s _ _ hk hfuel; omega
  | succ fuel ih =>
    intro k s t hs hlt hfuel hkeep h
    obtain ⟨hshape, hhlt⟩ := openSeq_spec hs
    obtain ⟨hn, -, -, -, htr⟩ := seqShape_spec hshape
    have hmem : q[k] ∈ q := List.getElem_mem hlt
    have hw : ((seqOf s.romSeqs f s.flags)[k]?).getD filler = q[k] := by
      rw [seqOf_romSeqs hs, List.getElem?_eq_getElem hlt, Option.getD_some]
    have hhl : q[k].contains .hlt = false := by simpa using List.all_eq_true.1 hhlt _ hmem
    rw [List.drop_eq_getElem_cons hlt, keepsOpcode_cons_iff] at hkeep
    rw [runRom_succ (lacks_of_openSeq hs), hw, andThen_next_iff] at h
    obtain ⟨u, hu, h⟩ := h
    obtain ⟨-, rfl⟩ := (commit_next_iff _ _ _).1 hu
    rw [List.drop_eq_getElem_cons hlt, afterSteps_cons]
    by_cases hkn : k + 1 = q.length
    · have he : endsRun q[k] = true := by
        simp only [endsRun, (htr k _ (List.getElem?_eq_getElem hlt)).2 (by omega), Bool.true_or]
      rw [if_pos he] at h
      cases h
      rw [List.drop_eq_nil_of_le (by omega), afterSteps_nil]
    · have ht : q[k].contains .tr = false := by
        cases h : q[k].contains .tr
        · rfl
        · exact absurd ((htr k _ (List.getElem?_eq_getElem hlt)).1 h) (by omega)
      have hform : (if q[k].contains .irw then formOf (applySet q[k] s).ir else f) = f := by
        rcases hkeep.1 with h | h | h
        · exact absurd (congrArg List.length h) (by simp only [List.length_drop, List.length_nil]; omega)
        · rw [h]; rfl
        · rw [h, ite_self]
      rw [if_neg (by simp only [endsRun, ht, hhl, Bool.or_self]; exact Bool.false_ne_true), hform] at h
      exact ih (k + 1) _ t (by rw [applySet_openSeq, hs]) (by omega) (by omega) hkeep.2 h
/-- Everything an OPEN instruction whose parameter keeps the opcode can do when it answers a next state. -/
theorem runOpen_next_eq_afterSteps {s t : State} {f : Form} {q : List SigSet} (hs : s.openSeq f = some q)
    (hk : keepsOpcode f q s = true) (h : runOpen f s = .next t) : t = afterSteps q s := by
  obtain ⟨hn, h1, h6, -, -⟩ := seqShape_spec (openSeq_spec hs).1
  exact runRom_next_eq_afterSteps 6 0 s t hs (by omega) (by omega) hk h

/-- The microsteps of an OPEN opcode are the steps of its parameter (rules R113, R271): from its `j`-th step on, `m` of
them, where they keep the opcode and none faults. -/
theorem runFor_eq_afterSteps {f : Form} {q : List SigSet} (hf : seqFaultless q = true) :
    ∀ (m j : Nat) (s : State), s.openSeq f = some q → formOf s.ir = f → s.mt.toNat = 2 + j → s.halted = false →
      keepsOpcode f (q.drop j) s = true → j + m ≤ q.length →
      runFor m s = .next (afterSteps ((q.drop j).take m) s) := by
  intro m
  induction m with
  | zero => intro j s _ _ _ _ _ _; rfl
  | succ m ih =>
    intro j s hs hir hmt hh hkeep hj
    obtain ⟨hshape, hhlt⟩ := openSeq_spec hs
    obtain ⟨hn, -, h6, -, htr⟩ := seqShape_spec hshape
    have hlt : j < q.length := by omega
    have hmem : q[j] ∈ q := List.getElem_mem hlt
    have hrom : rom s.romSeqs s.ir s.mt s.flags = q[j] := by
      have h0 : s.mt ≠ 0#3 := by intro h; rw [h] at hmt; simp at hmt; omega
      have h1 : s.mt ≠ 1#3 := by intro h; rw [h] at hmt; simp at hmt; omega
      rw [rom, if_neg h0, if_neg h1, hir, seqOf_romSeqs hs, hmt, Nat.add_sub_cancel_left,
        List.getElem?_eq_getElem hlt, Option.getD_some]
    have hstep : microstep s = .next (applySet q[j] s) := by
      refine (microstep_next_iff s _).2 (.inr ⟨hh, by simp [hir, lacks_of_openSeq hs], ?_⟩)
      rw [hrom]
      exact (commit_next_iff _ _ _).2 ⟨(seqFaultless_iff q).1 hf _ hmem, rfl⟩
    rw [List.drop_eq_getElem_cons hlt, keepsOpcode_cons_iff] at hkeep
    rw [runFor, if_neg (by simp [hh]), hstep, andThen_next, List.drop_eq_getElem_cons hlt, List.take_succ_cons,
      afterSteps_cons]
    cases m with
    | zero => rfl
    | succ m =>
      have hhl : q[j].contains .hlt = false := by simpa using List.all_eq_true.1 hhlt _ hmem
      have ht : q[j].contains .tr = false := by
        cases h : q[j].contains .tr
        · rfl
        · exact absurd ((htr j _ (List.getElem?_eq_getElem hlt)).1 h) (by omega)
      refine ih (j + 1) _ (by rw [applySet_openSeq, hs]) ?_ ?_ ?_ hkeep.2 (by omega)
      · rcases hkeep.1 with h | h | h
        · exact absurd (congrArg List.length h) (by simp only [List.length_drop, List.length_nil]; omega)
        · show formOf (latchBus (q[j].contains .irw) _ s.ir) = f
          rw [h]; exact hir
        · exact h
      · show (nextMt s.mt q[j]).toNat = _
        rw [nextMt, ht, hhl]
        simp only [Bool.false_eq_true, if_false, BitVec.toNat_add, BitVec.toNat_ofNat]
        omega
      · show (q[j].contains .hlt || s.halted) = false
        rw [hhl, hh]; rfl

end Sys2Proof.Machine
end

