-- ==== Sys2Proof/Laws/PerInstr.lean ====
section
/-! SUPPORT. The family `FormAgrees`, instruction by instruction: the form that the row-by-row table gives an opcode is the
one that the ordered dispatch of rules R90, R139, R162, R189 and R208 selects from the opcode's fields; a command
class of the LCD's port has none. -/

namespace Sys2Proof.Laws

/-- The table's form and the dispatch's form of an instruction agree (rule R90). -/
def FormAgrees.Statement (i : Instr) : Prop :=
  i.form = if i.space = .opcode then some (formOf (encodeByte i)) else none

theorem FormAgrees.lcdSetDramAddr (arg : Byte) : FormAgrees.Statement (.lcdSetDramAddr arg) := rfl
theorem FormAgrees.lcdSetCgramAddr (arg : Byte) : FormAgrees.Statement (.lcdSetCgramAddr arg) := rfl
theorem FormAgrees.lcdFunctionSet (arg : Byte) : FormAgrees.Statement (.lcdFunctionSet arg) := rfl
theorem FormAgrees.lcdShift (arg : Byte) : FormAgrees.Statement (.lcdShift arg) := rfl
theorem FormAgrees.lcdDisplay (arg : Byte) : FormAgrees.Statement (.lcdDisplay arg) := rfl
theorem FormAgrees.lcdEntryMode (arg : Byte) : FormAgrees.Statement (.lcdEntryMode arg) := rfl
theorem FormAgrees.lcdHome (arg : Byte) : FormAgrees.Statement (.lcdHome arg) := rfl
theorem FormAgrees.lcdClear : FormAgrees.Statement .lcdClear := rfl
theorem FormAgrees.lcdNoCommand : FormAgrees.Statement .lcdNoCommand := rfl
theorem FormAgrees.hlt : FormAgrees.Statement .hlt := rfl
theorem FormAgrees.jmpRa : FormAgrees.Statement .jmpRa := rfl
theorem FormAgrees.jmpRb : FormAgrees.Statement .jmpRb := rfl
theorem FormAgrees.jmpRc : FormAgrees.Statement .jmpRc := rfl
theorem FormAgrees.jmpRd : FormAgrees.Statement .jmpRd := rfl
theorem FormAgrees.jmpStp : FormAgrees.Statement .jmpStp := rfl
theorem FormAgrees.jmpStpi : FormAgrees.Statement .jmpStpi := rfl
theorem FormAgrees.jmpi : FormAgrees.Statement .jmpi := rfl
theorem FormAgrees.movRaPc : FormAgrees.Statement .movRaPc := rfl
theorem FormAgrees.nop : FormAgrees.Statement .nop := rfl
theorem FormAgrees.movRaRb : FormAgrees.Statement .movRaRb := rfl
theorem FormAgrees.movRaRc : FormAgrees.Statement .movRaRc := rfl
theorem FormAgrees.movRaRd : FormAgrees.Statement .movRaRd := rfl
theorem FormAgrees.movRaStp : FormAgrees.Statement .movRaStp := rfl
theorem FormAgrees.movRaStpi : FormAgrees.Statement .movRaStpi := rfl
theorem FormAgrees.moviRa : FormAgrees.Statement .moviRa := rfl
theorem FormAgrees.movRbPc : FormAgrees.Statement .movRbPc := rfl
theorem FormAgrees.movRbRa : FormAgrees.Statement .movRbRa := rfl
theorem FormAgrees.undefined12 : FormAgrees.Statement .undefined12 := rfl
theorem FormAgrees.movRbRc : FormAgrees.Statement .movRbRc := rfl
theorem FormAgrees.movRbRd : FormAgrees.Statement .movRbRd := rfl
theorem FormAgrees.movRbStp : FormAgrees.Statement .movRbStp := rfl
theorem FormAgrees.movRbStpi : FormAgrees.Statement .movRbStpi := rfl
theorem FormAgrees.moviRb : FormAgrees.Statement .moviRb := rfl
theorem FormAgrees.movRcPc : FormAgrees.Statement .movRcPc := rfl
theorem FormAgrees.movRcRa : FormAgrees.Statement .movRcRa := rfl
theorem FormAgrees.movRcRb : FormAgrees.Statement .movRcRb := rfl
theorem FormAgrees.undefined1B : FormAgrees.Statement .undefined1B := rfl
theorem FormAgrees.movRcRd : FormAgrees.Statement .movRcRd := rfl
theorem FormAgrees.movRcStp : FormAgrees.Statement .movRcStp := rfl
theorem FormAgrees.movRcStpi : FormAgrees.Statement .movRcStpi := rfl
theorem FormAgrees.moviRc : FormAgrees.Statement .moviRc := rfl
theorem FormAgrees.movRdPc : FormAgrees.Statement .movRdPc := rfl
theorem FormAgrees.movRdRa : FormAgrees.Statement .movRdRa := rfl
theorem FormAgrees.movRdRb : FormAgrees.Statement .movRdRb := rfl
theorem FormAgrees.movRdRc : FormAgrees.Statement .movRdRc := rfl
theorem FormAgrees.undefined24 : FormAgrees.Statement .undefined24 := rfl
theorem FormAgrees.movRdStp : FormAgrees.Statement .movRdStp := rfl
theorem FormAgrees.movRdStpi : FormAgrees.Statement .movRdStpi := rfl
theorem FormAgrees.moviRd : FormAgrees.Statement .moviRd := rfl
theorem FormAgrees.movStpPc : FormAgrees.Statement .movStpPc := rfl
theorem FormAgrees.movStpRa : FormAgrees.Statement .movStpRa := rfl
theorem FormAgrees.movStpRb : FormAgrees.Statement .movStpRb := rfl
theorem FormAgrees.movStpRc : FormAgrees.Statement .movStpRc := rfl
theorem FormAgrees.movStpRd : FormAgrees.Statement .movStpRd := rfl
theorem FormAgrees.undefined2D : FormAgrees.Statement .undefined2D := rfl
theorem FormAgrees.movStpStpi : FormAgrees.Statement .movStpStpi := rfl
theorem FormAgrees.moviStp : FormAgrees.Statement .moviStp := rfl
theorem FormAgrees.jmz : FormAgrees.Statement .jmz := rfl
theorem FormAgrees.tstRa : FormAgrees.Statement .tstRa := rfl
theorem FormAgrees.tstRb : FormAgrees.Statement .tstRb := rfl
theorem FormAgrees.tstRc : FormAgrees.Statement .tstRc := rfl
theorem FormAgrees.tstRd : FormAgrees.Statement .tstRd := rfl
theorem FormAgrees.tstStp : FormAgrees.Statement .tstStp := rfl
theorem FormAgrees.undefined36 : FormAgrees.Statement .undefined36 := rfl
theorem FormAgrees.clra : FormAgrees.Statement .clra := rfl
theorem FormAgrees.jc : FormAgrees.Statement .jc := rfl
theorem FormAgrees.jz : FormAgrees.Statement .jz := rfl
theorem FormAgrees.jo : FormAgrees.Statement .jo := rfl
theorem FormAgrees.jnn : FormAgrees.Statement .jnn := rfl
theorem FormAgrees.jn : FormAgrees.Statement .jn := rfl
theorem FormAgrees.jno : FormAgrees.Statement .jno := rfl
theorem FormAgrees.jnz : FormAgrees.Statement .jnz := rfl
theorem FormAgrees.jnc : FormAgrees.Statement .jnc := rfl
theorem FormAgrees.lodPcAtPc : FormAgrees.Statement .lodPcAtPc := rfl
theorem FormAgrees.lodPcAtRa : FormAgrees.Statement .lodPcAtRa := rfl
theorem FormAgrees.lodPcAtRb : FormAgrees.Statement .lodPcAtRb := rfl
theorem FormAgrees.lodPcPgmRc : FormAgrees.Statement .lodPcPgmRc := rfl
theorem FormAgrees.lodPcAtRd : FormAgrees.Statement .lodPcAtRd := rfl
theorem FormAgrees.lodPcAtStp : FormAgrees.Statement .lodPcAtStp := rfl
theorem FormAgrees.ret : FormAgrees.Statement .ret := rfl
theorem FormAgrees.lodPcAtImm : FormAgrees.Statement .lodPcAtImm := rfl
theorem FormAgrees.lodRaAtPc : FormAgrees.Statement .lodRaAtPc := rfl
theorem FormAgrees.lodRaAtRa : FormAgrees.Statement .lodRaAtRa := rfl
theorem FormAgrees.lodRaAtRb : FormAgrees.Statement .lodRaAtRb := rfl
theorem FormAgrees.lodRaPgmRc : FormAgrees.Statement .lodRaPgmRc := rfl
theorem FormAgrees.lodRaAtRd : FormAgrees.Statement .lodRaAtRd := rfl
theorem FormAgrees.lodRaAtStp : FormAgrees.Statement .lodRaAtStp := rfl
theorem FormAgrees.popRa : FormAgrees.Statement .popRa := rfl
theorem FormAgrees.lodRaAtImm : FormAgrees.Statement .lodRaAtImm := rfl
theorem FormAgrees.lodRbAtPc : FormAgrees.Statement .lodRbAtPc := rfl
theorem FormAgrees.lodRbAtRa : FormAgrees.Statement .lodRbAtRa := rfl
theorem FormAgrees.lodRbAtRb : FormAgrees.Statement .lodRbAtRb := rfl
theorem FormAgrees.lodRbPgmRc : FormAgrees.Statement .lodRbPgmRc := rfl
theorem FormAgrees.lodRbAtRd : FormAgrees.Statement .lodRbAtRd := rfl
theorem FormAgrees.lodRbAtStp : FormAgrees.Statement .lodRbAtStp := rfl
theorem FormAgrees.popRb : FormAgrees.Statement .popRb := rfl
theorem FormAgrees.lodRbAtImm : FormAgrees.Statement .lodRbAtImm := rfl
theorem FormAgrees.lodRcAtPc : FormAgrees.Statement .lodRcAtPc := rfl
theorem FormAgrees.lodRcAtRa : FormAgrees.Statement .lodRcAtRa := rfl
theorem FormAgrees.lodRcAtRb : FormAgrees.Statement .lodRcAtRb := rfl
theorem FormAgrees.lodRcPgmRc : FormAgrees.Statement .lodRcPgmRc := rfl
theorem FormAgrees.lodRcAtRd : FormAgrees.Statement .lodRcAtRd := rfl
theorem FormAgrees.lodRcAtStp : FormAgrees.Statement .lodRcAtStp := rfl
theorem FormAgrees.popRc : FormAgrees.Statement .popRc := rfl
theorem FormAgrees.lodRcAtImm : FormAgrees.Statement .lodRcAtImm := rfl
theorem FormAgrees.lodRdAtPc : FormAgrees.Statement .lodRdAtPc := rfl
theorem FormAgrees.lodRdAtRa : FormAgrees.Statement .lodRdAtRa := rfl
theorem FormAgrees.lodRdAtRb : FormAgrees.Statement .lodRdAtRb := rfl
theorem FormAgrees.lodRdPgmRc : FormAgrees.Statement .lodRdPgmRc := rfl
theorem FormAgrees.lodRdAtRd : FormAgrees.Statement .lodRdAtRd := rfl
theorem FormAgrees.lodRdAtStp : FormAgrees.Statement .lodRdAtStp := rfl
theorem FormAgrees.popRd : FormAgrees.Statement .popRd := rfl
theorem FormAgrees.lodRdAtImm : FormAgrees.Statement .lodRdAtImm := rfl
theorem FormAgrees.lodStpAtPc : FormAgrees.Statement .lodStpAtPc := rfl
theorem FormAgrees.lodStpAtRa : FormAgrees.Statement .lodStpAtRa := rfl
theorem FormAgrees.lodStpAtRb : FormAgrees.Statement .lodStpAtRb := rfl
theorem FormAgrees.lodStpPgmRc : FormAgrees.Statement .lodStpPgmRc := rfl
theorem FormAgrees.lodStpAtRd : FormAgrees.Statement .lodStpAtRd := rfl
theorem FormAgrees.lodStpAtStp : FormAgrees.Statement .lodStpAtStp := rfl
theorem FormAgrees.popStp : FormAgrees.Statement .popStp := rfl
theorem FormAgrees.lodStpAtImm : FormAgrees.Statement .lodStpAtImm := rfl
theorem FormAgrees.peekPc : FormAgrees.Statement .peekPc := rfl
theorem FormAgrees.peekRa : FormAgrees.Statement .peekRa := rfl
theorem FormAgrees.peekRb : FormAgrees.Statement .peekRb := rfl
theorem FormAgrees.peekRc : FormAgrees.Statement .peekRc := rfl
theorem FormAgrees.peekRd : FormAgrees.Statement .peekRd := rfl
theorem FormAgrees.lccMem : FormAgrees.Statement .lccMem := rfl
theorem FormAgrees.lccPgm : FormAgrees.Statement .lccPgm := rfl
theorem FormAgrees.lcdPgm : FormAgrees.Statement .lcdPgm := rfl
theorem FormAgrees.clrPc : FormAgrees.Statement .clrPc := rfl
theorem FormAgrees.clrRa : FormAgrees.Statement .clrRa := rfl
theorem FormAgrees.clrRb : FormAgrees.Statement .clrRb := rfl
theorem FormAgrees.clrRc : FormAgrees.Statement .clrRc := rfl
theorem FormAgrees.clrRd : FormAgrees.Statement .clrRd := rfl
theorem FormAgrees.clrStp : FormAgrees.Statement .clrStp := rfl
theorem FormAgrees.lccImm : FormAgrees.Statement .lccImm := rfl
theorem FormAgrees.lcdImm : FormAgrees.Statement .lcdImm := rfl
theorem FormAgrees.stoAtPcPc : FormAgrees.Statement .stoAtPcPc := rfl
theorem FormAgrees.stoAtPcRa : FormAgrees.Statement .stoAtPcRa := rfl
theorem FormAgrees.stoAtPcRb : FormAgrees.Statement .stoAtPcRb := rfl
theorem FormAgrees.stoAtPcRc : FormAgrees.Statement .stoAtPcRc := rfl
theorem FormAgrees.stoAtPcRd : FormAgrees.Statement .stoAtPcRd := rfl
theorem FormAgrees.stoAtPcStp : FormAgrees.Statement .stoAtPcStp := rfl
theorem FormAgrees.retSto : FormAgrees.Statement .retSto := rfl
theorem FormAgrees.stoAtPcImm : FormAgrees.Statement .stoAtPcImm := rfl
theorem FormAgrees.stoAtRaPc : FormAgrees.Statement .stoAtRaPc := rfl
theorem FormAgrees.stoAtRaRa : FormAgrees.Statement .stoAtRaRa := rfl
theorem FormAgrees.stoAtRaRb : FormAgrees.Statement .stoAtRaRb := rfl
theorem FormAgrees.stoAtRaRc : FormAgrees.Statement .stoAtRaRc := rfl
theorem FormAgrees.stoAtRaRd : FormAgrees.Statement .stoAtRaRd := rfl
theorem FormAgrees.stoAtRaStp : FormAgrees.Statement .stoAtRaStp := rfl
theorem FormAgrees.popRaSto : FormAgrees.Statement .popRaSto := rfl
theorem FormAgrees.stoAtRaImm : FormAgrees.Statement .stoAtRaImm := rfl
theorem FormAgrees.stoAtRbPc : FormAgrees.Statement .stoAtRbPc := rfl
theorem FormAgrees.stoAtRbRa : FormAgrees.Statement .stoAtRbRa := rfl
theorem FormAgrees.stoAtRbRb : FormAgrees.Statement .stoAtRbRb := rfl
theorem FormAgrees.stoAtRbRc : FormAgrees.Statement .stoAtRbRc := rfl
theorem FormAgrees.stoAtRbRd : FormAgrees.Statement .stoAtRbRd := rfl
theorem FormAgrees.stoAtRbStp : FormAgrees.Statement .stoAtRbStp := rfl
theorem FormAgrees.popRbSto : FormAgrees.Statement .popRbSto := rfl
theorem FormAgrees.stoAtRbImm : FormAgrees.Statement .stoAtRbImm := rfl
theorem FormAgrees.stoPgmRcPc : FormAgrees.Statement .stoPgmRcPc := rfl
theorem FormAgrees.stoPgmRcRa : FormAgrees.Statement .stoPgmRcRa := rfl
theorem FormAgrees.stoPgmRcRb : FormAgrees.Statement .stoPgmRcRb := rfl
theorem FormAgrees.stoPgmRcRc : FormAgrees.Statement .stoPgmRcRc := rfl
theorem FormAgrees.stoPgmRcRd : FormAgrees.Statement .stoPgmRcRd := rfl
theorem FormAgrees.stoPgmRcStp : FormAgrees.Statement .stoPgmRcStp := rfl
theorem FormAgrees.popRcSto : FormAgrees.Statement .popRcSto := rfl
theorem FormAgrees.stoPgmRcImm : FormAgrees.Statement .stoPgmRcImm := rfl
theorem FormAgrees.stoAtRdPc : FormAgrees.Statement .stoAtRdPc := rfl
theorem FormAgrees.stoAtRdRa : FormAgrees.Statement .stoAtRdRa := rfl
theorem FormAgrees.stoAtRdRb : FormAgrees.Statement .stoAtRdRb := rfl
theorem FormAgrees.stoAtRdRc : FormAgrees.Statement .stoAtRdRc := rfl
theorem FormAgrees.stoAtRdRd : FormAgrees.Statement .stoAtRdRd := rfl
theorem FormAgrees.stoAtRdStp : FormAgrees.Statement .stoAtRdStp := rfl
theorem FormAgrees.popRdSto : FormAgrees.Statement .popRdSto := rfl
theorem FormAgrees.stoAtRdImm : FormAgrees.Statement .stoAtRdImm := rfl
theorem FormAgrees.stoAtStpPc : FormAgrees.Statement .stoAtStpPc := rfl
theorem FormAgrees.stoAtStpRa : FormAgrees.Statement .stoAtStpRa := rfl
theorem FormAgrees.stoAtStpRb : FormAgrees.Statement .stoAtStpRb := rfl
theorem FormAgrees.stoAtStpRc : FormAgrees.Statement .stoAtStpRc := rfl
theorem FormAgrees.stoAtStpRd : FormAgrees.Statement .stoAtStpRd := rfl
theorem FormAgrees.stoAtStpStp : FormAgrees.Statement .stoAtStpStp := rfl
theorem FormAgrees.popStpSto : FormAgrees.Statement .popStpSto := rfl
theorem FormAgrees.stoAtStpImm : FormAgrees.Statement .stoAtStpImm := rfl
theorem FormAgrees.callRc : FormAgrees.Statement .callRc := rfl
theorem FormAgrees.pushRa : FormAgrees.Statement .pushRa := rfl
theorem FormAgrees.pushRb : FormAgrees.Statement .pushRb := rfl
theorem FormAgrees.pushRc : FormAgrees.Statement .pushRc := rfl
theorem FormAgrees.pushRd : FormAgrees.Statement .pushRd := rfl
theorem FormAgrees.pushStp : FormAgrees.Statement .pushStp := rfl
theorem FormAgrees.pushStpi : FormAgrees.Statement .pushStpi := rfl
theorem FormAgrees.pushi : FormAgrees.Statement .pushi := rfl
theorem FormAgrees.calli : FormAgrees.Statement .calli := rfl
theorem FormAgrees.stoiRa : FormAgrees.Statement .stoiRa := rfl
theorem FormAgrees.stoiRb : FormAgrees.Statement .stoiRb := rfl
theorem FormAgrees.stoiRc : FormAgrees.Statement .stoiRc := rfl
theorem FormAgrees.stoiRd : FormAgrees.Statement .stoiRd := rfl
theorem FormAgrees.stoiStp : FormAgrees.Statement .stoiStp := rfl
theorem FormAgrees.stoiStpi : FormAgrees.Statement .stoiStpi := rfl
theorem FormAgrees.stoiImmImm : FormAgrees.Statement .stoiImmImm := rfl
theorem FormAgrees.incPc : FormAgrees.Statement .incPc := rfl
theorem FormAgrees.incRa : FormAgrees.Statement .incRa := rfl
theorem FormAgrees.incRb : FormAgrees.Statement .incRb := rfl
theorem FormAgrees.incRc : FormAgrees.Statement .incRc := rfl
theorem FormAgrees.incRd : FormAgrees.Statement .incRd := rfl
theorem FormAgrees.incStp : FormAgrees.Statement .incStp := rfl
theorem FormAgrees.incStpi : FormAgrees.Statement .incStpi := rfl
theorem FormAgrees.incImm : FormAgrees.Statement .incImm := rfl
theorem FormAgrees.addPc : FormAgrees.Statement .addPc := rfl
theorem FormAgrees.addRa : FormAgrees.Statement .addRa := rfl
theorem FormAgrees.addRb : FormAgrees.Statement .addRb := rfl
theorem FormAgrees.addRc : FormAgrees.Statement .addRc := rfl
theorem FormAgrees.addRd : FormAgrees.Statement .addRd := rfl
theorem FormAgrees.addStp : FormAgrees.Statement .addStp := rfl
theorem FormAgrees.addStpi : FormAgrees.Statement .addStpi := rfl
theorem FormAgrees.addImm : FormAgrees.Statement .addImm := rfl
theorem FormAgrees.subPc : FormAgrees.Statement .subPc := rfl
theorem FormAgrees.subRa : FormAgrees.Statement .subRa := rfl
theorem FormAgrees.subRb : FormAgrees.Statement .subRb := rfl
theorem FormAgrees.subRc : FormAgrees.Statement .subRc := rfl
theorem FormAgrees.subRd : FormAgrees.Statement .subRd := rfl
theorem FormAgrees.subStp : FormAgrees.Statement .subStp := rfl
theorem FormAgrees.subStpi : FormAgrees.Statement .subStpi := rfl
theorem FormAgrees.subImm : FormAgrees.Statement .subImm := rfl
theorem FormAgrees.rsbPc : FormAgrees.Statement .rsbPc := rfl
theorem FormAgrees.rsbRa : FormAgrees.Statement .rsbRa := rfl
theorem FormAgrees.rsbRb : FormAgrees.Statement .rsbRb := rfl
theorem FormAgrees.rsbRc : FormAgrees.Statement .rsbRc := rfl
theorem FormAgrees.rsbRd : FormAgrees.Statement .rsbRd := rfl
theorem FormAgrees.rsbStp : FormAgrees.Statement .rsbStp := rfl
theorem FormAgrees.rsbStpi : FormAgrees.Statement .rsbStpi := rfl
theorem FormAgrees.rsbImm : FormAgrees.Statement .rsbImm := rfl
theorem FormAgrees.cmpPcRb : FormAgrees.Statement .cmpPcRb := rfl
theorem FormAgrees.cmpRaRb : FormAgrees.Statement .cmpRaRb := rfl
theorem FormAgrees.cmpRbRb : FormAgrees.Statement .cmpRbRb := rfl
theorem FormAgrees.cmpRcRb : FormAgrees.Statement .cmpRcRb := rfl
theorem FormAgrees.cmpRdRb : FormAgrees.Statement .cmpRdRb := rfl
theorem FormAgrees.cmpStpRb : FormAgrees.Statement .cmpStpRb := rfl
theorem FormAgrees.cmpStpiRb : FormAgrees.Statement .cmpStpiRb := rfl
theorem FormAgrees.cmpImmRb : FormAgrees.Statement .cmpImmRb := rfl
theorem FormAgrees.cmpRbPc : FormAgrees.Statement .cmpRbPc := rfl
theorem FormAgrees.cmpRbRa : FormAgrees.Statement .cmpRbRa := rfl
theorem FormAgrees.cmpRbRbRev : FormAgrees.Statement .cmpRbRbRev := rfl
theorem FormAgrees.cmpRbRc : FormAgrees.Statement .cmpRbRc := rfl
theorem FormAgrees.cmpRbRd : FormAgrees.Statement .cmpRbRd := rfl
theorem FormAgrees.cmpRbStp : FormAgrees.Statement .cmpRbStp := rfl
theorem FormAgrees.cmpRbStpi : FormAgrees.Statement .cmpRbStpi := rfl
theorem FormAgrees.cmpRbImm : FormAgrees.Statement .cmpRbImm := rfl
theorem FormAgrees.lccRegPc : FormAgrees.Statement .lccRegPc := rfl
theorem FormAgrees.lccRegRa : FormAgrees.Statement .lccRegRa := rfl
theorem FormAgrees.lccRegRb : FormAgrees.Statement .lccRegRb := rfl
theorem FormAgrees.lccRegRc : FormAgrees.Statement .lccRegRc := rfl
theorem FormAgrees.lccRegRd : FormAgrees.Statement .lccRegRd := rfl
theorem FormAgrees.lccRegStp : FormAgrees.Statement .lccRegStp := rfl
theorem FormAgrees.lccRegStpi : FormAgrees.Statement .lccRegStpi := rfl
theorem FormAgrees.lccRegImm : FormAgrees.Statement .lccRegImm := rfl
theorem FormAgrees.lcdRegPc : FormAgrees.Statement .lcdRegPc := rfl
theorem FormAgrees.lcdRegRa : FormAgrees.Statement .lcdRegRa := rfl
theorem FormAgrees.lcdRegRb : FormAgrees.Statement .lcdRegRb := rfl
theorem FormAgrees.lcdRegRc : FormAgrees.Statement .lcdRegRc := rfl
theorem FormAgrees.lcdRegRd : FormAgrees.Statement .lcdRegRd := rfl
theorem FormAgrees.lcdRegStp : FormAgrees.Statement .lcdRegStp := rfl
theorem FormAgrees.lcdRegStpi : FormAgrees.Statement .lcdRegStpi := rfl
theorem FormAgrees.lcdRegImm : FormAgrees.Statement .lcdRegImm := rfl

end Sys2Proof.Laws
end

