-- ==== Sys2Proof/Laws/State.lean ====
section
/-! SUPPORT. What every field holds after each named update of the state: one lemma per field per update. -/

namespace Sys2Proof.Machine

/-! ### `setMar` -/

@[simp] theorem State.setMar_pc (s : State) (v : Byte) : (s.setMar v).pc = s.pc := rfl
@[simp] theorem State.setMar_ra (s : State) (v : Byte) : (s.setMar v).ra = s.ra := rfl
@[simp] theorem State.setMar_rb (s : State) (v : Byte) : (s.setMar v).rb = s.rb := rfl
@[simp] theorem State.setMar_rc (s : State) (v : Byte) : (s.setMar v).rc = s.rc := rfl
@[simp] theorem State.setMar_rd (s : State) (v : Byte) : (s.setMar v).rd = s.rd := rfl
@[simp] theorem State.setMar_stp (s : State) (v : Byte) : (s.setMar v).stp = s.stp := rfl
@[simp] theorem State.setMar_acc (s : State) (v : Byte) : (s.setMar v).acc = s.acc := rfl
@[simp] theorem State.setMar_mar (s : State) (v : Byte) : (s.setMar v).mar = v := rfl
@[simp] theorem State.setMar_ir (s : State) (v : Byte) : (s.setMar v).ir = s.ir := rfl
@[simp] theorem State.setMar_flags (s : State) (v : Byte) : (s.setMar v).flags = s.flags := rfl
@[simp] theorem State.setMar_mt (s : State) (v : Byte) : (s.setMar v).mt = s.mt := rfl
@[simp] theorem State.setMar_halted (s : State) (v : Byte) : (s.setMar v).halted = s.halted := rfl
@[simp] theorem State.setMar_pmem (s : State) (v : Byte) : (s.setMar v).pmem = s.pmem := rfl
@[simp] theorem State.setMar_dmem (s : State) (v : Byte) : (s.setMar v).dmem = s.dmem := rfl
@[simp] theorem State.setMar_lcd (s : State) (v : Byte) : (s.setMar v).lcd = s.lcd := rfl
@[simp] theorem State.setMar_ops (s : State) (v : Byte) : (s.setMar v).ops = s.ops := rfl
@[simp] theorem State.setMar_openSeqs (s : State) (v : Byte) : (s.setMar v).openSeqs = s.openSeqs := rfl
@[simp] theorem State.setMar_running (s : State) (v : Byte) : (s.setMar v).running = s.running := rfl

/-! ### `latch` -/

@[simp] theorem State.latch_pc (s : State) (out : AluOut) : (s.latch out).pc = s.pc := rfl
@[simp] theorem State.latch_ra (s : State) (out : AluOut) : (s.latch out).ra = s.ra := rfl
@[simp] theorem State.latch_rb (s : State) (out : AluOut) : (s.latch out).rb = s.rb := rfl
@[simp] theorem State.latch_rc (s : State) (out : AluOut) : (s.latch out).rc = s.rc := rfl
@[simp] theorem State.latch_rd (s : State) (out : AluOut) : (s.latch out).rd = s.rd := rfl
@[simp] theorem State.latch_stp (s : State) (out : AluOut) : (s.latch out).stp = s.stp := rfl
@[simp] theorem State.latch_acc (s : State) (out : AluOut) : (s.latch out).acc = out.res := rfl
@[simp] theorem State.latch_mar (s : State) (out : AluOut) : (s.latch out).mar = s.mar := rfl
@[simp] theorem State.latch_ir (s : State) (out : AluOut) : (s.latch out).ir = s.ir := rfl
@[simp] theorem State.latch_flags (s : State) (out : AluOut) : (s.latch out).flags = out.flags := rfl
@[simp] theorem State.latch_mt (s : State) (out : AluOut) : (s.latch out).mt = s.mt := rfl
@[simp] theorem State.latch_halted (s : State) (out : AluOut) : (s.latch out).halted = s.halted := rfl
@[simp] theorem State.latch_pmem (s : State) (out : AluOut) : (s.latch out).pmem = s.pmem := rfl
@[simp] theorem State.latch_dmem (s : State) (out : AluOut) : (s.latch out).dmem = s.dmem := rfl
@[simp] theorem State.latch_lcd (s : State) (out : AluOut) : (s.latch out).lcd = s.lcd := rfl
@[simp] theorem State.latch_ops (s : State) (out : AluOut) : (s.latch out).ops = s.ops := rfl
@[simp] theorem State.latch_openSeqs (s : State) (out : AluOut) : (s.latch out).openSeqs = s.openSeqs := rfl
@[simp] theorem State.latch_running (s : State) (out : AluOut) : (s.latch out).running = s.running := rfl

/-! ### `endInstr` -/

@[simp] theorem State.endInstr_pc (s : State) : (s.endInstr).pc = s.pc := rfl
@[simp] theorem State.endInstr_ra (s : State) : (s.endInstr).ra = s.ra := rfl
@[simp] theorem State.endInstr_rb (s : State) : (s.endInstr).rb = s.rb := rfl
@[simp] theorem State.endInstr_rc (s : State) : (s.endInstr).rc = s.rc := rfl
@[simp] theorem State.endInstr_rd (s : State) : (s.endInstr).rd = s.rd := rfl
@[simp] theorem State.endInstr_stp (s : State) : (s.endInstr).stp = s.stp := rfl
@[simp] theorem State.endInstr_acc (s : State) : (s.endInstr).acc = s.acc := rfl
@[simp] theorem State.endInstr_mar (s : State) : (s.endInstr).mar = s.mar := rfl
@[simp] theorem State.endInstr_ir (s : State) : (s.endInstr).ir = s.ir := rfl
@[simp] theorem State.endInstr_flags (s : State) : (s.endInstr).flags = s.flags := rfl
@[simp] theorem State.endInstr_mt (s : State) : (s.endInstr).mt = 0#3 := rfl
@[simp] theorem State.endInstr_halted (s : State) : (s.endInstr).halted = s.halted := rfl
@[simp] theorem State.endInstr_pmem (s : State) : (s.endInstr).pmem = s.pmem := rfl
@[simp] theorem State.endInstr_dmem (s : State) : (s.endInstr).dmem = s.dmem := rfl
@[simp] theorem State.endInstr_lcd (s : State) : (s.endInstr).lcd = s.lcd := rfl
@[simp] theorem State.endInstr_ops (s : State) : (s.endInstr).ops = s.ops := rfl
@[simp] theorem State.endInstr_openSeqs (s : State) : (s.endInstr).openSeqs = s.openSeqs := rfl
@[simp] theorem State.endInstr_running (s : State) : (s.endInstr).running = s.running := rfl

/-! ### `setLcd` -/

@[simp] theorem State.setLcd_pc (s : State) (l : Lcd) : (s.setLcd l).pc = s.pc := rfl
@[simp] theorem State.setLcd_ra (s : State) (l : Lcd) : (s.setLcd l).ra = s.ra := rfl
@[simp] theorem State.setLcd_rb (s : State) (l : Lcd) : (s.setLcd l).rb = s.rb := rfl
@[simp] theorem State.setLcd_rc (s : State) (l : Lcd) : (s.setLcd l).rc = s.rc := rfl
@[simp] theorem State.setLcd_rd (s : State) (l : Lcd) : (s.setLcd l).rd = s.rd := rfl
@[simp] theorem State.setLcd_stp (s : State) (l : Lcd) : (s.setLcd l).stp = s.stp := rfl
@[simp] theorem State.setLcd_acc (s : State) (l : Lcd) : (s.setLcd l).acc = s.acc := rfl
@[simp] theorem State.setLcd_mar (s : State) (l : Lcd) : (s.setLcd l).mar = s.mar := rfl
@[simp] theorem State.setLcd_ir (s : State) (l : Lcd) : (s.setLcd l).ir = s.ir := rfl
@[simp] theorem State.setLcd_flags (s : State) (l : Lcd) : (s.setLcd l).flags = s.flags := rfl
@[simp] theorem State.setLcd_mt (s : State) (l : Lcd) : (s.setLcd l).mt = s.mt := rfl
@[simp] theorem State.setLcd_halted (s : State) (l : Lcd) : (s.setLcd l).halted = s.halted := rfl
@[simp] theorem State.setLcd_pmem (s : State) (l : Lcd) : (s.setLcd l).pmem = s.pmem := rfl
@[simp] theorem State.setLcd_dmem (s : State) (l : Lcd) : (s.setLcd l).dmem = s.dmem := rfl
@[simp] theorem State.setLcd_lcd (s : State) (l : Lcd) : (s.setLcd l).lcd = l := rfl
@[simp] theorem State.setLcd_ops (s : State) (l : Lcd) : (s.setLcd l).ops = s.ops := rfl
@[simp] theorem State.setLcd_openSeqs (s : State) (l : Lcd) : (s.setLcd l).openSeqs = s.openSeqs := rfl
@[simp] theorem State.setLcd_running (s : State) (l : Lcd) : (s.setLcd l).running = s.running := rfl

/-! ### `withFetchWord` -/

@[simp] theorem State.withFetchWord_pc (s : State) (nbits w : Nat) : (s.withFetchWord nbits w).pc = s.pc := rfl
@[simp] theorem State.withFetchWord_ra (s : State) (nbits w : Nat) : (s.withFetchWord nbits w).ra = s.ra := rfl
@[simp] theorem State.withFetchWord_rb (s : State) (nbits w : Nat) : (s.withFetchWord nbits w).rb = s.rb := rfl
@[simp] theorem State.withFetchWord_rc (s : State) (nbits w : Nat) : (s.withFetchWord nbits w).rc = s.rc := rfl
@[simp] theorem State.withFetchWord_rd (s : State) (nbits w : Nat) : (s.withFetchWord nbits w).rd = s.rd := rfl
@[simp] theorem State.withFetchWord_stp (s : State) (nbits w : Nat) : (s.withFetchWord nbits w).stp = s.stp := rfl
@[simp] theorem State.withFetchWord_acc (s : State) (nbits w : Nat) : (s.withFetchWord nbits w).acc = s.acc := rfl
@[simp] theorem State.withFetchWord_mar (s : State) (nbits w : Nat) : (s.withFetchWord nbits w).mar = s.mar := rfl
@[simp] theorem State.withFetchWord_ir (s : State) (nbits w : Nat) : (s.withFetchWord nbits w).ir = s.ir := rfl
@[simp] theorem State.withFetchWord_flags (s : State) (nbits w : Nat) : (s.withFetchWord nbits w).flags = s.flags := rfl
@[simp] theorem State.withFetchWord_mt (s : State) (nbits w : Nat) : (s.withFetchWord nbits w).mt = 0#3 := rfl
@[simp] theorem State.withFetchWord_halted (s : State) (nbits w : Nat) : (s.withFetchWord nbits w).halted = false := rfl
@[simp] theorem State.withFetchWord_pmem (s : State) (nbits w : Nat) : (s.withFetchWord nbits w).pmem = Memory.load s.pmem s.pc (tableBytes nbits w) := rfl
@[simp] theorem State.withFetchWord_dmem (s : State) (nbits w : Nat) : (s.withFetchWord nbits w).dmem = s.dmem := rfl
@[simp] theorem State.withFetchWord_lcd (s : State) (nbits w : Nat) : (s.withFetchWord nbits w).lcd = s.lcd := rfl
@[simp] theorem State.withFetchWord_ops (s : State) (nbits w : Nat) : (s.withFetchWord nbits w).ops = [] := rfl
@[simp] theorem State.withFetchWord_openSeqs (s : State) (nbits w : Nat) : (s.withFetchWord nbits w).openSeqs = s.openSeqs := rfl
@[simp] theorem State.withFetchWord_running (s : State) (nbits w : Nat) : (s.withFetchWord nbits w).running = true := rfl

/-! ### `hostReset` -/

@[simp] theorem State.hostReset_pc (s : State) : (hostReset s).pc = State.reset.pc := rfl
@[simp] theorem State.hostReset_ra (s : State) : (hostReset s).ra = State.reset.ra := rfl
@[simp] theorem State.hostReset_rb (s : State) : (hostReset s).rb = State.reset.rb := rfl
@[simp] theorem State.hostReset_rc (s : State) : (hostReset s).rc = State.reset.rc := rfl
@[simp] theorem State.hostReset_rd (s : State) : (hostReset s).rd = State.reset.rd := rfl
@[simp] theorem State.hostReset_stp (s : State) : (hostReset s).stp = State.reset.stp := rfl
@[simp] theorem State.hostReset_acc (s : State) : (hostReset s).acc = State.reset.acc := rfl
@[simp] theorem State.hostReset_mar (s : State) : (hostReset s).mar = State.reset.mar := rfl
@[simp] theorem State.hostReset_ir (s : State) : (hostReset s).ir = State.reset.ir := rfl
@[simp] theorem State.hostReset_flags (s : State) : (hostReset s).flags = State.reset.flags := rfl
@[simp] theorem State.hostReset_mt (s : State) : (hostReset s).mt = State.reset.mt := rfl
@[simp] theorem State.hostReset_halted (s : State) : (hostReset s).halted = State.reset.halted := rfl
@[simp] theorem State.hostReset_pmem (s : State) : (hostReset s).pmem = s.pmem := rfl
@[simp] theorem State.hostReset_dmem (s : State) : (hostReset s).dmem = s.dmem := rfl
@[simp] theorem State.hostReset_lcd (s : State) : (hostReset s).lcd = Lcd.make s.lcd.width s.lcd.height := rfl
@[simp] theorem State.hostReset_ops (s : State) : (hostReset s).ops = s.ops := rfl
@[simp] theorem State.hostReset_openSeqs (s : State) : (hostReset s).openSeqs = s.openSeqs := rfl
@[simp] theorem State.hostReset_running (s : State) : (hostReset s).running = State.reset.running := rfl

/-! ### `setReg` -/

@[simp] theorem State.setReg_pc (s : State) (r : Reg) (v : Byte) : (s.setReg r v).pc = if r = .pc then v else s.pc := by
  cases r <;> rfl
@[simp] theorem State.setReg_ra (s : State) (r : Reg) (v : Byte) : (s.setReg r v).ra = if r = .ra then v else s.ra := by
  cases r <;> rfl
@[simp] theorem State.setReg_rb (s : State) (r : Reg) (v : Byte) : (s.setReg r v).rb = if r = .rb then v else s.rb := by
  cases r <;> rfl
@[simp] theorem State.setReg_rc (s : State) (r : Reg) (v : Byte) : (s.setReg r v).rc = if r = .rc then v else s.rc := by
  cases r <;> rfl
@[simp] theorem State.setReg_rd (s : State) (r : Reg) (v : Byte) : (s.setReg r v).rd = if r = .rd then v else s.rd := by
  cases r <;> rfl
@[simp] theorem State.setReg_stp (s : State) (r : Reg) (v : Byte) : (s.setReg r v).stp = if r = .stp then v else s.stp := by
  cases r <;> rfl
@[simp] theorem State.setReg_acc (s : State) (r : Reg) (v : Byte) : (s.setReg r v).acc = s.acc := by
  cases r <;> rfl
@[simp] theorem State.setReg_mar (s : State) (r : Reg) (v : Byte) : (s.setReg r v).mar = s.mar := by
  cases r <;> rfl
@[simp] theorem State.setReg_ir (s : State) (r : Reg) (v : Byte) : (s.setReg r v).ir = s.ir := by
  cases r <;> rfl
@[simp] theorem State.setReg_flags (s : State) (r : Reg) (v : Byte) : (s.setReg r v).flags = s.flags := by
  cases r <;> rfl
@[simp] theorem State.setReg_mt (s : State) (r : Reg) (v : Byte) : (s.setReg r v).mt = s.mt := by
  cases r <;> rfl
@[simp] theorem State.setReg_halted (s : State) (r : Reg) (v : Byte) : (s.setReg r v).halted = s.halted := by
  cases r <;> rfl
@[simp] theorem State.setReg_pmem (s : State) (r : Reg) (v : Byte) : (s.setReg r v).pmem = s.pmem := by
  cases r <;> rfl
@[simp] theorem State.setReg_dmem (s : State) (r : Reg) (v : Byte) : (s.setReg r v).dmem = s.dmem := by
  cases r <;> rfl
@[simp] theorem State.setReg_lcd (s : State) (r : Reg) (v : Byte) : (s.setReg r v).lcd = s.lcd := by
  cases r <;> rfl
@[simp] theorem State.setReg_ops (s : State) (r : Reg) (v : Byte) : (s.setReg r v).ops = s.ops := by
  cases r <;> rfl
@[simp] theorem State.setReg_openSeqs (s : State) (r : Reg) (v : Byte) : (s.setReg r v).openSeqs = s.openSeqs := by
  cases r <;> rfl
@[simp] theorem State.setReg_running (s : State) (r : Reg) (v : Byte) : (s.setReg r v).running = s.running := by
  cases r <;> rfl

/-! ### `store` -/

@[simp] theorem State.store_pc (s : State) (pgm : Bool) (a v : Byte) :
    (s.store pgm a v).pc = s.pc := by
  cases pgm <;> rfl
@[simp] theorem State.store_ra (s : State) (pgm : Bool) (a v : Byte) :
    (s.store pgm a v).ra = s.ra := by
  cases pgm <;> rfl
@[simp] theorem State.store_rb (s : State) (pgm : Bool) (a v : Byte) :
    (s.store pgm a v).rb = s.rb := by
  cases pgm <;> rfl
@[simp] theorem State.store_rc (s : State) (pgm : Bool) (a v : Byte) :
    (s.store pgm a v).rc = s.rc := by
  cases pgm <;> rfl
@[simp] theorem State.store_rd (s : State) (pgm : Bool) (a v : Byte) :
    (s.store pgm a v).rd = s.rd := by
  cases pgm <;> rfl
@[simp] theorem State.store_stp (s : State) (pgm : Bool) (a v : Byte) :
    (s.store pgm a v).stp = s.stp := by
  cases pgm <;> rfl
@[simp] theorem State.store_acc (s : State) (pgm : Bool) (a v : Byte) :
    (s.store pgm a v).acc = s.acc := by
  cases pgm <;> rfl
@[simp] theorem State.store_mar (s : State) (pgm : Bool) (a v : Byte) :
    (s.store pgm a v).mar = s.mar := by
  cases pgm <;> rfl
@[simp] theorem State.store_ir (s : State) (pgm : Bool) (a v : Byte) :
    (s.store pgm a v).ir = s.ir := by
  cases pgm <;> rfl
@[simp] theorem State.store_flags (s : State) (pgm : Bool) (a v : Byte) :
    (s.store pgm a v).flags = s.flags := by
  cases pgm <;> rfl
@[simp] theorem State.store_mt (s : State) (pgm : Bool) (a v : Byte) :
    (s.store pgm a v).mt = s.mt := by
  cases pgm <;> rfl
@[simp] theorem State.store_halted (s : State) (pgm : Bool) (a v : Byte) :
    (s.store pgm a v).halted = s.halted := by
  cases pgm <;> rfl
@[simp] theorem State.store_pmem (s : State) (pgm : Bool) (a v : Byte) :
    (s.store pgm a v).pmem = if pgm then s.pmem.write a.toNat v else s.pmem := by
  cases pgm <;> rfl
@[simp] theorem State.store_dmem (s : State) (pgm : Bool) (a v : Byte) :
    (s.store pgm a v).dmem = if pgm then s.dmem else s.dmem.write a.toNat v := by
  cases pgm <;> rfl
@[simp] theorem State.store_lcd (s : State) (pgm : Bool) (a v : Byte) :
    (s.store pgm a v).lcd = s.lcd := by
  cases pgm <;> rfl
@[simp] theorem State.store_ops (s : State) (pgm : Bool) (a v : Byte) :
    (s.store pgm a v).ops = s.ops := by
  cases pgm <;> rfl
@[simp] theorem State.store_openSeqs (s : State) (pgm : Bool) (a v : Byte) :
    (s.store pgm a v).openSeqs = s.openSeqs := by
  cases pgm <;> rfl
@[simp] theorem State.store_running (s : State) (pgm : Bool) (a v : Byte) :
    (s.store pgm a v).running = s.running := by
  cases pgm <;> rfl

/-! ### The registers by code -/

@[simp] theorem State.reg_setMar (s : State) (v : Byte) (r : Reg) : (s.setMar v).reg r = s.reg r := by cases r <;> rfl
@[simp] theorem State.reg_latch (s : State) (out : AluOut) (r : Reg) : (s.latch out).reg r = s.reg r := by
  cases r <;> rfl
@[simp] theorem State.reg_endInstr (s : State) (r : Reg) : s.endInstr.reg r = s.reg r := by cases r <;> rfl
@[simp] theorem State.reg_setLcd (s : State) (l : Lcd) (r : Reg) : (s.setLcd l).reg r = s.reg r := by cases r <;> rfl
@[simp] theorem State.reg_store (s : State) (pgm : Bool) (a v : Byte) (r : Reg) :
    (s.store pgm a v).reg r = s.reg r := by
  cases pgm <;> cases r <;> rfl

/-- A written register reads as what was written; a pseudo code still names none. -/
theorem State.reg_setReg_same (s : State) (r : Reg) (v : Byte) (h : r ≠ .stpi ∧ r ≠ .imm) :
    (s.setReg r v).reg r = some v := by
  cases r <;> first | rfl | exact absurd rfl h.1 | exact absurd rfl h.2

/-- A write leaves every other register alone. -/
theorem State.reg_setReg_other (s : State) (r q : Reg) (v : Byte) (h : q ≠ r) : (s.setReg r v).reg q = s.reg q := by
  cases r <;> cases q <;> first | rfl | exact absurd rfl h

/-- A register code reads as none exactly when it is a pseudo code. -/
theorem State.reg_eq_none_iff (s : State) (r : Reg) : s.reg r = none ↔ r = .stpi ∨ r = .imm := by
  cases r <;> simp [State.reg]

/-! ### One byte of a memory after a write to the other state -/

@[simp] theorem State.load_setMar (s : State) (v : Byte) (p : Bool) (a : Byte) : (s.setMar v).load p a = s.load p a := rfl
@[simp] theorem State.load_latch (s : State) (out : AluOut) (p : Bool) (a : Byte) :
    (s.latch out).load p a = s.load p a := rfl
@[simp] theorem State.load_endInstr (s : State) (p : Bool) (a : Byte) : s.endInstr.load p a = s.load p a := rfl
@[simp] theorem State.load_setLcd (s : State) (l : Lcd) (p : Bool) (a : Byte) : (s.setLcd l).load p a = s.load p a := rfl
@[simp] theorem State.load_setReg (s : State) (r : Reg) (v : Byte) (p : Bool) (a : Byte) :
    (s.setReg r v).load p a = s.load p a := by
  cases r <;> rfl

end Sys2Proof.Machine
end

