-- ==== Sys2Proof/Tests/Slice0.lean ====
section
/-! SUPPORT. Our own tests: an ill-formed term for each check of WellFormed, every opcode's and every command class's
decoding from words written out from the spec's maps, single steps with the spec's own vectors
(`95_test_vectors.md` §2.5 and §2.6), and for every obligation with hypotheses a case that meets them. -/

namespace Sys2Proof.Tests

open Sys2Proof Sys2Proof.Machine

/-! ### Ill-formed terms (rules R85, R86, R97, R115, R153, R157, R183, R184, R224) -/

theorem test_illFormed_lcdSetDramAddr :
    Instr.wf (.lcdSetDramAddr 0x80#8) = false ∧ Instr.wf (.lcdSetDramAddr (0x80#8 - 1#8)) = true := by decide

theorem test_illFormed_lcdSetCgramAddr :
    Instr.wf (.lcdSetCgramAddr 0x40#8) = false ∧ Instr.wf (.lcdSetCgramAddr (0x40#8 - 1#8)) = true := by decide

theorem test_illFormed_lcdFunctionSet :
    Instr.wf (.lcdFunctionSet 0x20#8) = false ∧ Instr.wf (.lcdFunctionSet (0x20#8 - 1#8)) = true := by decide

theorem test_illFormed_lcdShift :
    Instr.wf (.lcdShift 0x10#8) = false ∧ Instr.wf (.lcdShift (0x10#8 - 1#8)) = true := by decide

theorem test_illFormed_lcdDisplay :
    Instr.wf (.lcdDisplay 0x08#8) = false ∧ Instr.wf (.lcdDisplay (0x08#8 - 1#8)) = true := by decide

theorem test_illFormed_lcdEntryMode :
    Instr.wf (.lcdEntryMode 0x04#8) = false ∧ Instr.wf (.lcdEntryMode (0x04#8 - 1#8)) = true := by decide

theorem test_illFormed_lcdHome :
    Instr.wf (.lcdHome 0x02#8) = false ∧ Instr.wf (.lcdHome (0x02#8 - 1#8)) = true := by decide

theorem test_illFormed_seq_length :
    seqShape 2 [[.tr]] = false ∧ seqShape 0 [] = false ∧ seqShape 7 (List.replicate 6 [] ++ [[.tr]]) = false := by
  decide

theorem test_illFormed_seq_noEnd : seqShape 2 [[], [.pcc]] = false := by decide

theorem test_illFormed_seq_earlyEnd : seqShape 2 [[.tr], [.tr]] = false := by decide

theorem test_illFormed_seq_twoDrivers : seqShape 1 [[.w .ra, .bwMem, .tr]] = false := by decide

theorem test_illFormed_seq_twoModes : seqShape 1 [[.alu .aPlusB, .alu .aAndB, .tr]] = false := by decide

/-- A sequence of `calli` that pushes the immediate's own address. -/
def calliSame : List SigSet :=
  [[.w .stp, .alu .aMinusB, .alw], [.bwAlu, .stpw, .maw], [.w .pc, .mw],
    [.w .pc, .alu .aPlusB, .alw], [.bwAlu, .maw], [.pgm, .bwMem, .r .pc, .tr]]

/-- An admissible choice of the four OPEN sequences, as far as their shape goes. -/
def someSeqs : OpenSeqs :=
  { lccImm := [[.w .pc, .maw], [.pgm, .bwMem, .lcd, .lcdCommand], [.pcc, .tr]]
    lccPgm := [[.w .pc, .maw], [.pgm, .bwMem, .pcc, .maw], [.pgm, .bwMem, .lcd, .lcdCommand], [.tr]]
    calli := calliSame
    stoi := stoiFromAcc }

theorem test_wellFormed_seqs : OpenSeqs.wf someSeqs = true := by decide

theorem test_illFormed_lccImm :
    lccImmShape [[], [], [.tr]] = false ∧ lccImmShape [[.lcd, .lcdCommand], [.lcdData], [.tr]] = false ∧
      lccImmShape [[.lcd, .lcdCommand], [.hlt], [.tr]] = false := by decide

theorem test_illFormed_lccPgm :
    lccPgmShape [[], [], [.bwMem, .lcd, .lcdCommand], [.tr]] = false ∧
      lccPgmShape [[.lcdData], [], [.pgm, .bwMem, .lcd, .lcdCommand], [.tr]] = false := by decide

theorem test_illFormed_calli :
    calliShape [[], [], [], [], [], [.r .pc, .tr]] = false ∧ calliShape [[.mw], [], [], [], [], [.tr]] = false ∧
      calliShape [[.mw], [.lcd], [], [], [], [.r .pc, .tr]] = false := by decide

theorem test_illFormed_stoi :
    stoiShape [[], [], [], [.mw], [.tr]] = false ∧ stoiShape [[.mw, .pgm], [], [], [.mw, .pgm], [.tr]] = false ∧
      stoiShape [[.hlt], [], [], [.mw, .pgm], [.tr]] = false := by decide

/-- An admissible layout: the fields in bits 0 to 8, the one-bit signals from bit 9 on. -/
def someLayout : Layout :=
  { pgm := 9, maw := 10, mw := 11, irw := 12, alw := 13, pcc := 14, alc := 15, alb := 16, lcd := 17
    lcdCommand := 18, lcdData := 19, hlt := 20, tr := 21, stpw := 22
    wOffset := 0, rOffset := 3, aluOffset := 6, bwMem := .bit 23, bwAlu := .code 6#3 }

theorem test_wellFormed_layout : someLayout.wf = true := by decide

theorem test_illFormed_layout_sharedBit : Layout.wf { someLayout with maw := 9 } = false := by decide

theorem test_illFormed_layout_bitInField : Layout.wf { someLayout with hlt := 4 } = false := by decide

theorem test_illFormed_layout_fieldsOverlap : Layout.wf { someLayout with rOffset := 2 } = false := by decide

theorem test_illFormed_layout_bitOutOfWord : Layout.wf { someLayout with stpw := 32 } = false := by decide

theorem test_illFormed_layout_fieldOutOfWord : Layout.wf { someLayout with aluOffset := 30 } = false := by decide

theorem test_illFormed_layout_busMaskShared : Layout.wf { someLayout with bwMem := .bit 9 } = false := by decide

theorem test_illFormed_layout_busMaskOutOfWord : Layout.wf { someLayout with bwMem := .bit 32 } = false := by decide

theorem test_illFormed_layout_busMaskZero : Layout.wf { someLayout with bwAlu := .code 0#3 } = false := by decide

theorem test_illFormed_geometry :
    geometryOk 0 2 = false ∧ geometryOk 16 0 = false ∧ geometryOk 16 5 = false ∧ geometryOk 1 4 = true := by decide

/-! ### Decoding, word by word from the maps of rules R91 to R94 and R97 -/

theorem test_decode_00 :
    (([0b00000000#8, 0b00000001#8, 0b00000010#8, 0b00000011#8, 0b00000100#8, 0b00000101#8] : List Byte)
      ++ ([0b00000110#8, 0b00000111#8, 0b00001000#8, 0b00001001#8, 0b00001010#8, 0b00001011#8] : List Byte)
      ++ ([0b00001100#8, 0b00001101#8, 0b00001110#8, 0b00001111#8, 0b00010000#8, 0b00010001#8] : List Byte)
      ++ ([0b00010010#8, 0b00010011#8, 0b00010100#8, 0b00010101#8, 0b00010110#8, 0b00010111#8] : List Byte)
      ++ ([0b00011000#8, 0b00011001#8, 0b00011010#8, 0b00011011#8, 0b00011100#8, 0b00011101#8] : List Byte)
      ++ ([0b00011110#8, 0b00011111#8] : List Byte)).map
        decodeOpcode
      = ([.hlt, .jmpRa, .jmpRb, .jmpRc, .jmpRd, .jmpStp] : List Instr)
      ++ ([.jmpStpi, .jmpi, .movRaPc, .nop, .movRaRb, .movRaRc] : List Instr)
      ++ ([.movRaRd, .movRaStp, .movRaStpi, .moviRa, .movRbPc, .movRbRa] : List Instr)
      ++ ([.undefined12, .movRbRc, .movRbRd, .movRbStp, .movRbStpi, .moviRb] : List Instr)
      ++ ([.movRcPc, .movRcRa, .movRcRb, .undefined1B, .movRcRd, .movRcStp] : List Instr)
      ++ ([.movRcStpi, .moviRc] : List Instr) :=
  rfl

theorem test_decode_20 :
    (([0b00100000#8, 0b00100001#8, 0b00100010#8, 0b00100011#8, 0b00100100#8, 0b00100101#8] : List Byte)
      ++ ([0b00100110#8, 0b00100111#8, 0b00101000#8, 0b00101001#8, 0b00101010#8, 0b00101011#8] : List Byte)
      ++ ([0b00101100#8, 0b00101101#8, 0b00101110#8, 0b00101111#8, 0b00110000#8, 0b00110001#8] : List Byte)
      ++ ([0b00110010#8, 0b00110011#8, 0b00110100#8, 0b00110101#8, 0b00110110#8, 0b00110111#8] : List Byte)
      ++ ([0b00111000#8, 0b00111001#8, 0b00111010#8, 0b00111011#8, 0b00111100#8, 0b00111101#8] : List Byte)
      ++ ([0b00111110#8, 0b00111111#8] : List Byte)).map
        decodeOpcode
      = ([.movRdPc, .movRdRa, .movRdRb, .movRdRc, .undefined24, .movRdStp] : List Instr)
      ++ ([.movRdStpi, .moviRd, .movStpPc, .movStpRa, .movStpRb, .movStpRc] : List Instr)
      ++ ([.movStpRd, .undefined2D, .movStpStpi, .moviStp, .jmz, .tstRa] : List Instr)
      ++ ([.tstRb, .tstRc, .tstRd, .tstStp, .undefined36, .clra] : List Instr)
      ++ ([.jc, .jz, .jo, .jnn, .jn, .jno] : List Instr)
      ++ ([.jnz, .jnc] : List Instr) :=
  rfl

theorem test_decode_40 :
    (([0b01000000#8, 0b01000001#8, 0b01000010#8, 0b01000011#8, 0b01000100#8, 0b01000101#8] : List Byte)
      ++ ([0b01000110#8, 0b01000111#8, 0b01001000#8, 0b01001001#8, 0b01001010#8, 0b01001011#8] : List Byte)
      ++ ([0b01001100#8, 0b01001101#8, 0b01001110#8, 0b01001111#8, 0b01010000#8, 0b01010001#8] : List Byte)
      ++ ([0b01010010#8, 0b01010011#8, 0b01010100#8, 0b01010101#8, 0b01010110#8, 0b01010111#8] : List Byte)
      ++ ([0b01011000#8, 0b01011001#8, 0b01011010#8, 0b01011011#8, 0b01011100#8, 0b01011101#8] : List Byte)
      ++ ([0b01011110#8, 0b01011111#8] : List Byte)).map
        decodeOpcode
      = ([.lodPcAtPc, .lodPcAtRa, .lodPcAtRb, .lodPcPgmRc, .lodPcAtRd, .lodPcAtStp] : List Instr)
      ++ ([.ret, .lodPcAtImm, .lodRaAtPc, .lodRaAtRa, .lodRaAtRb, .lodRaPgmRc] : List Instr)
      ++ ([.lodRaAtRd, .lodRaAtStp, .popRa, .lodRaAtImm, .lodRbAtPc, .lodRbAtRa] : List Instr)
      ++ ([.lodRbAtRb, .lodRbPgmRc, .lodRbAtRd, .lodRbAtStp, .popRb, .lodRbAtImm] : List Instr)
      ++ ([.lodRcAtPc, .lodRcAtRa, .lodRcAtRb, .lodRcPgmRc, .lodRcAtRd, .lodRcAtStp] : List Instr)
      ++ ([.popRc, .lodRcAtImm] : List Instr) :=
  rfl

theorem test_decode_60 :
    (([0b01100000#8, 0b01100001#8, 0b01100010#8, 0b01100011#8, 0b01100100#8, 0b01100101#8] : List Byte)
      ++ ([0b01100110#8, 0b01100111#8, 0b01101000#8, 0b01101001#8, 0b01101010#8, 0b01101011#8] : List Byte)
      ++ ([0b01101100#8, 0b01101101#8, 0b01101110#8, 0b01101111#8, 0b01110000#8, 0b01110001#8] : List Byte)
      ++ ([0b01110010#8, 0b01110011#8, 0b01110100#8, 0b01110101#8, 0b01110110#8, 0b01110111#8] : List Byte)
      ++ ([0b01111000#8, 0b01111001#8, 0b01111010#8, 0b01111011#8, 0b01111100#8, 0b01111101#8] : List Byte)
      ++ ([0b01111110#8, 0b01111111#8] : List Byte)).map
        decodeOpcode
      = ([.lodRdAtPc, .lodRdAtRa, .lodRdAtRb, .lodRdPgmRc, .lodRdAtRd, .lodRdAtStp] : List Instr)
      ++ ([.popRd, .lodRdAtImm, .lodStpAtPc, .lodStpAtRa, .lodStpAtRb, .lodStpPgmRc] : List Instr)
      ++ ([.lodStpAtRd, .lodStpAtStp, .popStp, .lodStpAtImm, .peekPc, .peekRa] : List Instr)
      ++ ([.peekRb, .peekRc, .peekRd, .lccMem, .lccPgm, .lcdPgm] : List Instr)
      ++ ([.clrPc, .clrRa, .clrRb, .clrRc, .clrRd, .clrStp] : List Instr)
      ++ ([.lccImm, .lcdImm] : List Instr) :=
  rfl

theorem test_decode_80 :
    (([0b10000000#8, 0b10000001#8, 0b10000010#8, 0b10000011#8, 0b10000100#8, 0b10000101#8] : List Byte)
      ++ ([0b10000110#8, 0b10000111#8, 0b10001000#8, 0b10001001#8, 0b10001010#8, 0b10001011#8] : List Byte)
      ++ ([0b10001100#8, 0b10001101#8, 0b10001110#8, 0b10001111#8, 0b10010000#8, 0b10010001#8] : List Byte)
      ++ ([0b10010010#8, 0b10010011#8, 0b10010100#8, 0b10010101#8, 0b10010110#8, 0b10010111#8] : List Byte)
      ++ ([0b10011000#8, 0b10011001#8, 0b10011010#8, 0b10011011#8, 0b10011100#8, 0b10011101#8] : List Byte)
      ++ ([0b10011110#8, 0b10011111#8] : List Byte)).map
        decodeOpcode
      = ([.stoAtPcPc, .stoAtPcRa, .stoAtPcRb, .stoAtPcRc, .stoAtPcRd, .stoAtPcStp] : List Instr)
      ++ ([.retSto, .stoAtPcImm, .stoAtRaPc, .stoAtRaRa, .stoAtRaRb, .stoAtRaRc] : List Instr)
      ++ ([.stoAtRaRd, .stoAtRaStp, .popRaSto, .stoAtRaImm, .stoAtRbPc, .stoAtRbRa] : List Instr)
      ++ ([.stoAtRbRb, .stoAtRbRc, .stoAtRbRd, .stoAtRbStp, .popRbSto, .stoAtRbImm] : List Instr)
      ++ ([.stoPgmRcPc, .stoPgmRcRa, .stoPgmRcRb, .stoPgmRcRc, .stoPgmRcRd, .stoPgmRcStp] : List Instr)
      ++ ([.popRcSto, .stoPgmRcImm] : List Instr) :=
  rfl

theorem test_decode_A0 :
    (([0b10100000#8, 0b10100001#8, 0b10100010#8, 0b10100011#8, 0b10100100#8, 0b10100101#8] : List Byte)
      ++ ([0b10100110#8, 0b10100111#8, 0b10101000#8, 0b10101001#8, 0b10101010#8, 0b10101011#8] : List Byte)
      ++ ([0b10101100#8, 0b10101101#8, 0b10101110#8, 0b10101111#8, 0b10110000#8, 0b10110001#8] : List Byte)
      ++ ([0b10110010#8, 0b10110011#8, 0b10110100#8, 0b10110101#8, 0b10110110#8, 0b10110111#8] : List Byte)
      ++ ([0b10111000#8, 0b10111001#8, 0b10111010#8, 0b10111011#8, 0b10111100#8, 0b10111101#8] : List Byte)
      ++ ([0b10111110#8, 0b10111111#8] : List Byte)).map
        decodeOpcode
      = ([.stoAtRdPc, .stoAtRdRa, .stoAtRdRb, .stoAtRdRc, .stoAtRdRd, .stoAtRdStp] : List Instr)
      ++ ([.popRdSto, .stoAtRdImm, .stoAtStpPc, .stoAtStpRa, .stoAtStpRb, .stoAtStpRc] : List Instr)
      ++ ([.stoAtStpRd, .stoAtStpStp, .popStpSto, .stoAtStpImm, .callRc, .pushRa] : List Instr)
      ++ ([.pushRb, .pushRc, .pushRd, .pushStp, .pushStpi, .pushi] : List Instr)
      ++ ([.calli, .stoiRa, .stoiRb, .stoiRc, .stoiRd, .stoiStp] : List Instr)
      ++ ([.stoiStpi, .stoiImmImm] : List Instr) :=
  rfl

theorem test_decode_C0 :
    (([0b11000000#8, 0b11000001#8, 0b11000010#8, 0b11000011#8, 0b11000100#8, 0b11000101#8] : List Byte)
      ++ ([0b11000110#8, 0b11000111#8, 0b11001000#8, 0b11001001#8, 0b11001010#8, 0b11001011#8] : List Byte)
      ++ ([0b11001100#8, 0b11001101#8, 0b11001110#8, 0b11001111#8, 0b11010000#8, 0b11010001#8] : List Byte)
      ++ ([0b11010010#8, 0b11010011#8, 0b11010100#8, 0b11010101#8, 0b11010110#8, 0b11010111#8] : List Byte)
      ++ ([0b11011000#8, 0b11011001#8, 0b11011010#8, 0b11011011#8, 0b11011100#8, 0b11011101#8] : List Byte)
      ++ ([0b11011110#8, 0b11011111#8] : List Byte)).map
        decodeOpcode
      = ([.incPc, .incRa, .incRb, .incRc, .incRd, .incStp] : List Instr)
      ++ ([.incStpi, .incImm, .addPc, .addRa, .addRb, .addRc] : List Instr)
      ++ ([.addRd, .addStp, .addStpi, .addImm, .subPc, .subRa] : List Instr)
      ++ ([.subRb, .subRc, .subRd, .subStp, .subStpi, .subImm] : List Instr)
      ++ ([.rsbPc, .rsbRa, .rsbRb, .rsbRc, .rsbRd, .rsbStp] : List Instr)
      ++ ([.rsbStpi, .rsbImm] : List Instr) :=
  rfl

theorem test_decode_E0 :
    (([0b11100000#8, 0b11100001#8, 0b11100010#8, 0b11100011#8, 0b11100100#8, 0b11100101#8] : List Byte)
      ++ ([0b11100110#8, 0b11100111#8, 0b11101000#8, 0b11101001#8, 0b11101010#8, 0b11101011#8] : List Byte)
      ++ ([0b11101100#8, 0b11101101#8, 0b11101110#8, 0b11101111#8, 0b11110000#8, 0b11110001#8] : List Byte)
      ++ ([0b11110010#8, 0b11110011#8, 0b11110100#8, 0b11110101#8, 0b11110110#8, 0b11110111#8] : List Byte)
      ++ ([0b11111000#8, 0b11111001#8, 0b11111010#8, 0b11111011#8, 0b11111100#8, 0b11111101#8] : List Byte)
      ++ ([0b11111110#8, 0b11111111#8] : List Byte)).map
        decodeOpcode
      = ([.cmpPcRb, .cmpRaRb, .cmpRbRb, .cmpRcRb, .cmpRdRb, .cmpStpRb] : List Instr)
      ++ ([.cmpStpiRb, .cmpImmRb, .cmpRbPc, .cmpRbRa, .cmpRbRbRev, .cmpRbRc] : List Instr)
      ++ ([.cmpRbRd, .cmpRbStp, .cmpRbStpi, .cmpRbImm, .lccRegPc, .lccRegRa] : List Instr)
      ++ ([.lccRegRb, .lccRegRc, .lccRegRd, .lccRegStp, .lccRegStpi, .lccRegImm] : List Instr)
      ++ ([.lcdRegPc, .lcdRegRa, .lcdRegRb, .lcdRegRc, .lcdRegRd, .lcdRegStp] : List Instr)
      ++ ([.lcdRegStpi, .lcdRegImm] : List Instr) :=
  rfl

theorem test_decode_commands :
    ([0x80#8, 0xFF#8, 0x40#8, 0x7F#8, 0x20#8, 0x3F#8, 0x10#8, 0x1F#8] : List Byte).map decodeCommand
        = [.lcdSetDramAddr 0x00#8, .lcdSetDramAddr 0x7F#8, .lcdSetCgramAddr 0x00#8, .lcdSetCgramAddr 0x3F#8,
          .lcdFunctionSet 0x00#8, .lcdFunctionSet 0x1F#8, .lcdShift 0x00#8, .lcdShift 0x0F#8] ∧
      ([0x08#8, 0x0F#8, 0x04#8, 0x07#8, 0x02#8, 0x03#8, 0x01#8, 0x00#8] : List Byte).map decodeCommand
        = [.lcdDisplay 0x00#8, .lcdDisplay 0x07#8, .lcdEntryMode 0x00#8, .lcdEntryMode 0x03#8, .lcdHome 0x00#8,
          .lcdHome 0x01#8, .lcdClear, .lcdNoCommand] :=
  ⟨rfl, rfl⟩

/-- The host's two readings of an instruction word agree on a two-byte one (`movi Ra, Imm`, rule R132). -/
theorem test_placed_word :
    decodeTableWord 8 0x0F = some .moviRa ∧
      (match step (State.reset.withFetchWord 8 0x0F) with
        | .next t => t.pc == 0x02#8 && t.ir == 0x0F#8
        | _ => false) = true := by
  decide

/-! ### Single steps (the vectors of `95_test_vectors.md` §2.5) -/

/-- One step from a state with a program loaded at its PC. -/
def stepOn (program : List Byte) (s : State) : Result := step (placeBytes s s.pc program)

/-- Whether a step answers a next state that meets a test. -/
def next? (r : Result) (test : State → Bool) : Bool :=
  match r with
  | .next t => test t
  | .fault _ => false
  | .refused _ => false

/-- The state after reset with one byte of data memory. -/
def withData (s : State) (a v : Byte) : State := s.store false a v

/-- The flags as four digits, C Z O N. -/
def flagsAre (s : State) (c z o n : Bool) : Bool := s.flags == { c := c, z := z, o := o, n := n }

/-- Vector "jz taken". -/
theorem test_step_jz_taken :
    next? (stepOn [0x39#8, 0x40#8] { State.reset with flags := { c := false, z := true, o := false, n := false } })
      (fun t => t.pc == 0x40#8 && t.mar == 0x01#8 && flagsAre t false true false false) = true := by
  decide

/-- Vector "jnn not taken". -/
theorem test_step_jnn_notTaken :
    next? (stepOn [0x3B#8, 0x40#8] { State.reset with flags := { c := false, z := false, o := false, n := true } })
      (fun t => t.pc == 0x02#8 && flagsAre t false false false true) = true := by
  decide

/-- Vector "clra". -/
theorem test_step_clra :
    next? (stepOn [0x37#8] { State.reset with ra := 0x01#8, rb := 0x02#8, rc := 0x03#8, rd := 0x04#8, stp := 0x05#8 })
      (fun t => t.pc == 0x01#8 && t.ra == 0x00#8 && t.rb == 0x00#8 && t.rc == 0x00#8 && t.rd == 0x00#8 &&
        t.stp == 0x00#8 && flagsAre t false true false false) = true := by
  decide

/-- Vector "movi StP at 0xFE". -/
theorem test_step_movi_wraps :
    next? (stepOn [0x2F#8, 0x10#8] { State.reset with pc := 0xFE#8 })
      (fun t => t.pc == 0x00#8 && t.stp == 0x10#8 && flagsAre t false false false false) = true := by
  decide

/-- Vector "jmz". -/
theorem test_step_jmz :
    next? (stepOn [0x30#8] { State.reset with pc := 0x10#8, acc := 0x55#8 })
      (fun t => t.pc == 0x00#8 && t.acc == 0x00#8 && flagsAre t false true false false) = true := by
  decide

/-- Vector "tst Rb (0x80)". -/
theorem test_step_tst :
    next? (stepOn [0x32#8] { State.reset with rb := 0x80#8 })
      (fun t => t.pc == 0x01#8 && t.acc == 0x80#8 && t.rb == 0x80#8 && flagsAre t false false false true) = true := by
  decide

/-- Vector "mov Ra, PC". -/
theorem test_step_mov_pc :
    next? (stepOn [0x08#8] { State.reset with pc := 0x20#8 })
      (fun t => t.pc == 0x21#8 && t.ra == 0x21#8 && flagsAre t false false false false) = true := by
  decide

/-- Vector "mov Ra, StPi". -/
theorem test_step_mov_stpi : stepOn [0x0E#8] State.reset = .fault .pseudoDriver := rfl

/-- Vector "hlt". -/
theorem test_step_hlt :
    next? (stepOn [0x00#8] State.reset)
      (fun t => t.halted && t.mt == 2#3 && t.pc == 0x01#8 && flagsAre t false false false false) = true := by
  decide

/-- Vector "nop at 0xFF". -/
theorem test_step_nop_wraps :
    next? (stepOn [0x09#8] { State.reset with pc := 0xFF#8 })
      (fun t => t.pc == 0x00#8 && flagsAre t false false false false) = true := by
  decide

/-- Vector "undefined 0x36". -/
theorem test_step_undefined :
    next? (stepOn [0x36#8] State.reset)
      (fun t => t.pc == 0x01#8 && t.acc == 0x00#8 && flagsAre t false false false false) = true := by
  decide

/-- Vector "peek PC". -/
theorem test_step_peek_pc :
    next? (stepOn [0x70#8] { State.reset with stp := 0xF0#8, dmem := [(0xF0, 0x12#8)] })
      (fun t => t.pc == 0x12#8 && t.stp == 0xF0#8 && flagsAre t false false false false) = true := by
  decide

/-- Rule R151 with the command 0x91. -/
theorem test_step_lccMem :
    next? (stepOn [0x75#8, 0x20#8] { State.reset with dmem := [(0x20, 0x91#8)] })
      (fun t => t.pc == 0x02#8 && t.mar == 0x20#8 && t.lcd.cursor == 17 &&
        flagsAre t false false false false) = true := by
  decide

/-- Vector "lcd pgm". -/
theorem test_step_lcdPgm :
    next? (stepOn [0x77#8, 0x05#8, 0x00#8, 0x00#8, 0x00#8, 0x48#8] State.reset)
      (fun t => t.pc == 0x02#8 && t.lcd.ddram == [(0, 0x48#8)] && t.lcd.cursor == 1 &&
        flagsAre t false false false false) = true := by
  decide

/-- The worked example of rule R155. -/
theorem test_step_ret :
    next? (stepOn [0x46#8] { State.reset with stp := 0xEF#8, acc := 0x07#8, dmem := [(0xF0, 0x34#8)] })
      (fun t => t.pc == 0x34#8 && t.stp == 0xF0#8 && t.acc == 0x07#8 &&
        flagsAre t false false false false) = true := by
  decide

/-- Vector "pop Ra at StP=0xFF". -/
theorem test_step_pop_wraps :
    next? (stepOn [0x4E#8] { State.reset with stp := 0xFF#8, dmem := [(0x00, 0x66#8)] })
      (fun t => t.pc == 0x01#8 && t.ra == 0x66#8 && t.stp == 0x00#8 && flagsAre t true true false false) = true := by
  decide

/-- Vector "pop StP". -/
theorem test_step_pop_stp :
    next? (stepOn [0x6E#8] { State.reset with stp := 0x10#8, dmem := [(0x11, 0x80#8)] })
      (fun t => t.pc == 0x01#8 && t.stp == 0x80#8 && t.acc == 0x11#8 &&
        flagsAre t false false false false) = true := by
  decide

/-- Vector "lod PC, *Imm". -/
theorem test_step_lod_imm_pc :
    next? (stepOn [0x47#8, 0x80#8] { State.reset with dmem := [(0x80, 0x2A#8)] })
      (fun t => t.pc == 0x2A#8 && flagsAre t false false false false) = true := by
  decide

/-- Vector "lcd imm". -/
theorem test_step_lcdImm :
    next? (stepOn [0x7F#8, 0x41#8] State.reset)
      (fun t => t.pc == 0x02#8 && t.lcd.ddram == [(0, 0x41#8)] && t.lcd.cursor == 1 &&
        flagsAre t false false false false) = true := by
  decide

/-- Vector "clr Rd". -/
theorem test_step_clr :
    next? (stepOn [0x7C#8] { State.reset with rd := 0x55#8 })
      (fun t => t.pc == 0x01#8 && t.rd == 0x00#8 && flagsAre t false true false false) = true := by
  decide

/-- Vector "lod Ra, PGM*Rc". -/
theorem test_step_lod_pgm :
    next? (stepOn [0x4B#8, 0x00#8, 0x00#8, 0x00#8, 0x00#8, 0x48#8] { State.reset with rc := 0x05#8 })
      (fun t => t.pc == 0x01#8 && t.ra == 0x48#8 && flagsAre t false false false false) = true := by
  decide

/-- Vector "lod Ra, *Ra". -/
theorem test_step_lod_self :
    next? (stepOn [0x49#8] { State.reset with ra := 0x90#8, dmem := [(0x90, 0x77#8)] })
      (fun t => t.pc == 0x01#8 && t.ra == 0x77#8 && flagsAre t false false false false) = true := by
  decide

/-- Vector "pushi". -/
theorem test_step_pushi :
    next? (stepOn [0xB7#8, 0x99#8] { State.reset with stp := 0xF0#8 })
      (fun t => t.pc == 0x02#8 && t.stp == 0xEF#8 && t.acc == 0x99#8 && t.load false 0xEF#8 == 0x99#8 &&
        flagsAre t false false false true) = true := by
  decide

/-- Vector "call Rc". -/
theorem test_step_call :
    next? (stepOn [0xB0#8] { State.reset with pc := 0x10#8, stp := 0xF0#8, rc := 0x40#8 })
      (fun t => t.pc == 0x40#8 && t.stp == 0xEF#8 && t.acc == 0xEF#8 && t.load false 0xEF#8 == 0x11#8 &&
        flagsAre t true false false true) = true := by
  decide

/-- Vector "push Rb at StP=0". -/
theorem test_step_push_wraps :
    next? (stepOn [0xB2#8] { State.reset with stp := 0x00#8, rb := 0x5A#8 })
      (fun t => t.pc == 0x01#8 && t.stp == 0xFF#8 && t.acc == 0xFF#8 && t.load false 0xFF#8 == 0x5A#8 &&
        flagsAre t false false false true) = true := by
  decide

/-- Vector "push StP". -/
theorem test_step_push_stp :
    next? (stepOn [0xB5#8] { State.reset with stp := 0xF0#8 })
      (fun t => t.stp == 0xEF#8 && t.load false 0xEF#8 == 0xEF#8 && flagsAre t true false false true) = true := by
  decide

/-- Vector "stoi Ra". -/
theorem test_step_stoi :
    next? (stepOn [0xB9#8, 0x80#8] { State.reset with ra := 0x07#8 })
      (fun t => t.pc == 0x02#8 && t.load false 0x80#8 == 0x07#8 && flagsAre t false false false false) = true := by
  decide

/-- Vector "sto *Ra = Rb". -/
theorem test_step_sto :
    next? (stepOn [0x8A#8] { State.reset with ra := 0x80#8, rb := 0x11#8 })
      (fun t => t.pc == 0x01#8 && t.load false 0x80#8 == 0x11#8 && flagsAre t false false false false) = true := by
  decide

/-- Vector "sto PGM*Rc = Ra". -/
theorem test_step_sto_pgm :
    next? (stepOn [0x99#8] { State.reset with rc := 0x40#8, ra := 0x09#8 })
      (fun t => t.pc == 0x01#8 && t.load true 0x40#8 == 0x09#8 && t.load false 0x40#8 == 0x00#8 &&
        flagsAre t false false false false) = true := by
  decide

/-- Vector "sto *Ra = Imm". -/
theorem test_step_sto_imm : stepOn [0x8F#8, 0x12#8] { State.reset with ra := 0x80#8 } = .fault .pseudoDriver := rfl

/-- Vector "inc Ra at 0xFF". -/
theorem test_step_inc_carry :
    next? (stepOn [0xC1#8] { State.reset with ra := 0xFF#8 })
      (fun t => t.ra == 0x00#8 && t.acc == 0x00#8 && flagsAre t true true false false) = true := by
  decide

/-- Vector "inc PC". -/
theorem test_step_inc_pc :
    next? (stepOn [0xC0#8] State.reset)
      (fun t => t.pc == 0x02#8 && t.acc == 0x02#8 && flagsAre t false false false false) = true := by
  decide

/-- Vector "add Rb". -/
theorem test_step_add_overflow :
    next? (stepOn [0xCA#8] { State.reset with rb := 0x81#8 })
      (fun t => t.rb == 0x02#8 && t.acc == 0x02#8 && flagsAre t true false true false) = true := by
  decide

/-- Vector "sub Rc". -/
theorem test_step_sub_borrow :
    next? (stepOn [0xD3#8] { State.reset with rc := 0x05#8, rb := 0x07#8 })
      (fun t => t.rc == 0xFE#8 && t.acc == 0xFE#8 && flagsAre t false false false true) = true := by
  decide

/-- Vector "sub Ra overflow". -/
theorem test_step_sub_overflow :
    next? (stepOn [0xD1#8] { State.reset with ra := 0x80#8, rb := 0x01#8 })
      (fun t => t.ra == 0x7F#8 && flagsAre t true false true false) = true := by
  decide

/-- Vector "rsb Ra". -/
theorem test_step_rsb :
    next? (stepOn [0xD9#8] { State.reset with ra := 0x03#8, rb := 0x10#8 })
      (fun t => t.ra == 0x0D#8 && t.rb == 0x10#8 && flagsAre t true false false false) = true := by
  decide

/-- Vector "cmp Ra, Rb less". -/
theorem test_step_cmp_less :
    next? (stepOn [0xE1#8] { State.reset with ra := 0x04#8, rb := 0x05#8 })
      (fun t => t.ra == 0x04#8 && t.acc == 0xFF#8 && flagsAre t false false false true) = true := by
  decide

/-- Vector "cmp Rb, Rd". -/
theorem test_step_cmp_reverse :
    next? (stepOn [0xEC#8] { State.reset with rb := 0x01#8, rd := 0x02#8 })
      (fun t => t.rd == 0x02#8 && t.rb == 0x01#8 && t.acc == 0xFF#8 && flagsAre t false false false true) = true := by
  decide

/-- Vector "lcc Ra SET_DRAM 0x91". -/
theorem test_step_lcc :
    next? (stepOn [0xF1#8] { State.reset with ra := 0x91#8 })
      (fun t => t.pc == 0x01#8 && t.lcd.cursor == 17 && flagsAre t false false false false) = true := by
  decide

/-- Vector "lcd Ra". -/
theorem test_step_lcd :
    next? (stepOn [0xF9#8] { State.reset with ra := 0x48#8 })
      (fun t => t.pc == 0x01#8 && t.lcd.ddram == [(0, 0x48#8)] && t.lcd.cursor == 1 &&
        flagsAre t false false false false) = true := by
  decide

/-- Vector "lcd Imm". -/
theorem test_step_lcd_pseudo : stepOn [0xFF#8] State.reset = .fault .pseudoDriver := rfl

/-- `lcc imm` with CLEAR, an OPEN form with its parameter supplied (rule R157). -/
theorem test_step_lccImm :
    next? (stepOn [0x7E#8, 0x01#8]
        { State.reset with lcd := { Lcd.make 1 1 with cursor := 1 }, openSeqs := someSeqs.supply })
      (fun t => t.pc == 0x02#8 && t.lcd.cursor == 0 && t.mt == 0#3) = true := by
  decide

/-- `lcc pgm`, an OPEN form with a parameter of two operand bytes (rule R153). -/
theorem test_step_lccPgm :
    next? (stepOn [0x76#8, 0x03#8, 0x00#8, 0x02#8]
        { State.reset with lcd := { Lcd.make 1 1 with cursor := 1 }, openSeqs := someSeqs.supply })
      (fun t => t.pc == 0x02#8 && t.lcd.cursor == 0 && t.mt == 0#3) = true := by
  decide

/-- `calli`, an OPEN form with its parameter supplied (rule R183): the bytes `0xB8 0x40`. -/
theorem test_step_calli :
    next? (stepOn [0xB8#8, 0x40#8] { State.reset with stp := 0xF0#8, openSeqs := someSeqs.supply })
      (fun t => t.pc == 0x40#8 && t.stp == 0xEF#8 && t.load false 0xEF#8 == 0x01#8) = true := by
  decide

/-- `stoi Imm, Imm`, an OPEN form, from a state in which Acc holds the value byte's address (rule R184): the program
`0xBF 0x30 0x09`. -/
theorem test_step_stoiImmImm :
    next? (stepOn [0xBF#8, 0x30#8, 0x09#8] { State.reset with acc := 0x02#8, openSeqs := someSeqs.supply })
      (fun t => t.pc == 0x03#8 && t.load true 0x30#8 == 0x09#8 && t.mt == 0#3) = true := by
  decide

/-- Vectors "lcc pgm (OPEN)", "lcc imm (OPEN)", "calli (OPEN)" and "stoi (OPEN)": a fault without a parameter. -/
theorem test_step_openUnsupplied :
    stepOn [0x76#8, 0x01#8] State.reset = .fault .openUnsupplied ∧
      stepOn [0x7E#8, 0x01#8] State.reset = .fault .openUnsupplied ∧
      stepOn [0xB8#8, 0x40#8] State.reset = .fault .openUnsupplied ∧
      stepOn [0xBF#8, 0x30#8, 0x09#8] State.reset = .fault .openUnsupplied :=
  ⟨rfl, rfl, rfl, rfl⟩

/-- `run(n)` stops at the halt: the vector "hlt" takes 3 microsteps (rules R271, R118). -/
theorem test_runFor :
    next? (runFor 2 State.reset) (fun t => t.mt == 2#3 && !t.halted) = true ∧
      next? (runFor 9 State.reset) (fun t => t.mt == 2#3 && t.halted && t.pc == 0x01#8) = true := by
  decide

/-- During a run the host has no move that writes the LCD (rule R338); before reset it has. -/
theorem test_hostMoves :
    step { State.reset with ops := [.lcdData 0x41#8] } = .refused .duringRun ∧
      next? (step { State.setup with ops := [.lcdData 0x41#8] }) (fun t => t.lcd.cursor == 1) = true :=
  ⟨rfl, by decide⟩

/-- A resume takes the machine from `hlt` to the next fetch (rule R268). -/
theorem test_resume :
    next? (step { State.reset with halted := true, mt := 2#3, ops := [.resume] })
      (fun t => !t.halted && t.mt == 3#3 && next? (step t) (fun u => u.mt == 0#3 && u.pc == t.pc)) = true := by
  decide

/-! ### The LCD and the ROM (`95_test_vectors.md` §2.1 to §2.3, §2.6) -/

/-- Cursor advance, the vectors of rule R233. -/
theorem test_advance :
    [0, 14, 15, 16, 31, 32, 33].map (Lcd.make 16 2).advance = [1, 15, 17, 17, 32, 0, 0] ∧
      [19, 40, 82].map (Lcd.make 20 4).advance = [21, 42, 0] ∧ (Lcd.make 1 1).advance 0 = 0 := by
  decide

/-- SET_DRAM_ADDR, the vectors of rule R225. -/
theorem test_setDramAddr :
    ([0x80#8, 0x90#8, 0x91#8, 0xA1#8, 0xC0#8, 0xFF#8] : List Byte).map
        (fun b => ((Lcd.make 16 2).sendCommand b).cursor)
      = [0, 16, 17, 33, 33, 33] := by
  decide

/-- Reading a line runs on past a nonzero gap byte (rule R236); INCREMENT clear keeps the cursor (rule R232). -/
theorem test_readLine :
    ((((Lcd.make 2 2).writeString [0x41#8, 0x42#8]).sendCommand 0x82#8).writeString [0x58#8, 0x59#8]).readLine 0
        = [0x41#8, 0x42#8, 0x58#8, 0x59#8] ∧
      ((((Lcd.make 16 2).sendCommand 0x04#8).writeByte 0x41#8).writeByte 0x42#8).ddram = [(0, 0x42#8)] := by
  decide

/-- A space drawn on a 1×1 device is 0 in the glyph cell and -1 outside the buffer (rules R240 to R242). -/
theorem test_pixels :
    (((Lcd.make 1 1).writeByte 0x20#8).updatePixels).pixelState 4 7 = 0 ∧
      (Lcd.make 1 1).pixelState 4 7 = -1 ∧
      (((Lcd.make 1 1).writeByte 0x20#8).updatePixels).pixelState 5 0 = -1 ∧
      (((Lcd.make 1 1).writeByte 0x20#8).updatePixels).pixelState (-1) 3 = -1 := by
  decide

/-- ROM addresses, the vectors of rule R50. -/
theorem test_romAddress :
    romAddress 0x39#8 2#3 { c := false, z := true, o := false, n := false } = 0x11CA#15 ∧
      romAddress 0xB1#8 4#3 { c := false, z := false, o := false, n := true } = 0x458C#15 ∧
      romSet someSeqs 0x09FB#15 = [.tr] ∧ romSet someSeqs 0x11CA#15 = [.w .pc, .maw] := by
  decide

/-- Control words under the layout above, the vectors of §2.3. -/
theorem test_controlWord :
    encodeSet someLayout [] = 0#32 ∧ encodeSet someLayout [.w .pc, .maw] = 0x400#32 ∧
      encodeSet someLayout [.bwAlu, .r .ra, .r .rb, .r .rc, .r .rd, .r .stp, .tr] = 0x20003E#32 ∧
      encodeSet someLayout [.w .rb, .alb, .alu .bMinusA, .alw, .alc] = 0x1A0C2#32 := by
  decide

/-! ### Witnesses: a case that meets the hypotheses of each obligation that has some -/

/-- A register and the bounds of a launch, width 1 and height 4. -/
theorem test_witness_ResetState :
    Reg.pc ≠ .stpi ∧ Reg.stp ≠ .imm ∧ 1 ≤ 1 ∧ 1 ≤ 4 ∧ 4 ≤ 4 := by decide

/-- A small state that meets the invariant, with an LCD of one cell. -/
def smallState : State := { State.reset with lcd := Lcd.make 1 1 }

theorem test_witness_StepKeepsInvariant :
    smallState.inv = true ∧ next? (step smallState) (fun _ => true) = true ∧
      next? (step { smallState with running := false, ops := [.lcdData 0x41#8] }) (fun t => t.lcd.cursor == 0) = true := by decide

theorem test_witness_StepRunsDecoded :
    State.reset.ops = [] ∧ State.reset.halted = false ∧ State.reset.running = true ∧ State.reset.mt = 0#3 ∧
      decode .opcode (State.reset.load true State.reset.pc :: []) = .ok (.hlt, []) := ⟨rfl, rfl, rfl, rfl, rfl⟩

theorem test_witness_PlacedWordRuns :
    0xFF < 256 ∧ decodeTableWord 8 0xFF = some .lcdRegImm ∧ decodeTableWord 8 0x00 = some .hlt := by decide

theorem test_witness_StepEndsAtBoundary :
    State.reset.ops = [] ∧ State.reset.running = true ∧ next? (step State.reset) (fun _ => true) = true := by decide

theorem test_witness_StepIsMicrosteps :
    State.reset.ops = [] ∧ State.reset.halted = false ∧ State.reset.running = true ∧ State.reset.mt = 0#3 ∧
      ({ State.reset with halted := true } : State).halted = true ∧ Form.hlt = formOf (State.reset.load true State.reset.pc) ∧
      State.reset.openSeq .hlt = none := by decide

/-- A state with a value of each OPEN parameter supplied. -/
def suppliedState : State := { State.reset with openSeqs := someSeqs.supply }

/-- The same with an LCD of one cell. -/
def smallSupplied : State := { smallState with openSeqs := someSeqs.supply }

theorem test_witness_InstructionCompletes :
    suppliedState.openSeq .calli = some calliSame ∧ seqFaultless calliSame = true ∧
      keepsOpcode .calli calliSame suppliedState = true ∧ Form.isOpen .nop = false ∧
      (Instr.nop.space = .opcode → encodeByte .nop ∉ pseudoOpcodes) ∧
      ((Instr.lcdHome 0x01#8).space = .opcode → encodeByte (.lcdHome 0x01#8) ∉ pseudoOpcodes) := by decide

theorem test_witness_PseudoRegisterFaults :
    Instr.jmpStpi.space = .opcode ∧ encodeByte .jmpStpi ∈ pseudoOpcodes ∧
      exec .lcdRegImm State.reset = .fault .pseudoDriver ∧
      Instr.form .calli = some .calli ∧ State.reset.lacks .calli = true := ⟨rfl, by decide, rfl, rfl, rfl⟩

theorem test_witness_CondJumpEffect :
    Instr.form .jc = some (.condJump .carry) ∧ condHolds .carry State.reset.flags = false ∧
      Instr.form .jnc = some (.condJump .notCarry) ∧ condHolds .notCarry State.reset.flags = true := by decide

theorem test_witness_ClearEffects :
    Instr.form .clra = some .clra ∧ Instr.form .jmz = some .jmz ∧ Instr.form .clrPc = some (.clr .pc) ∧
      Instr.form .clrStp = some (.clr .stp) := by decide

theorem test_witness_MoveImmediateEffect :
    Instr.form .moviRa = some (.movi .ra) ∧ Instr.form .moviStp = some (.movi .stp) ∧ Instr.form .jmpi = some .jmpi := by decide

theorem test_witness_TestEffect :
    Instr.form .tstStp = some (.tst .stp) ∧ State.reset.reg .stp = some 0x00#8 := by decide

theorem test_witness_MoveEffect :
    Instr.form .jmpStp = some (.mov .pc .stp) ∧ State.reset.reg .stp = some 0x00#8 ∧
      Instr.form .movStpPc = some (.mov .stp .pc) ∧ State.reset.reg .pc = some 0x00#8 := by decide

theorem test_witness_HaltEffect :
    Instr.form .hlt = some .hlt ∧ ({ State.reset with halted := true } : State).ops = [] := by decide

theorem test_witness_NoOperationEffect :
    Instr.form .nop = some .nop ∧ Instr.form .undefined36 = some .undef := by decide

theorem test_witness_PeekEffect :
    Instr.form .peekPc = some (.peek .pc) ∧ Instr.form .peekRd = some (.peek .rd) := by decide

theorem test_witness_LcdMemoryEffects :
    Instr.form .lccMem = some .lccMem ∧ Instr.form .lcdPgm = some .lcdPgm ∧ Instr.form .lcdImm = some .lcdImm ∧
      State.reset.load true State.reset.pc = 0x00#8 := by decide

theorem test_witness_RetEffect :
    Instr.form .ret = some .ret ∧ Instr.form .retSto = some .ret := by decide

theorem test_witness_PopEffect :
    Instr.form .popStp = some (.pop .stp) ∧ Instr.form .popRaSto = some (.pop .ra) := by decide

theorem test_witness_LoadEffects :
    Instr.form .lodPcAtImm = some (.lodImm .pc) ∧ State.reset.load true State.reset.pc = 0x00#8 ∧
      Instr.form .lodRaPgmRc = some (.lod .ra .rc) ∧ State.reset.reg .rc = some 0x00#8 ∧
      Instr.form .lodStpAtStp = some (.lod .stp .stp) ∧ State.reset.reg .stp = some 0x00#8 := by decide

theorem test_witness_PushImmediateEffect :
    Instr.form .pushi = some .pushi ∧ State.reset.load true State.reset.pc = 0x00#8 := by decide

theorem test_witness_PushAndCallEffects :
    Instr.form .pushStp = some (.push .stp) ∧
      (State.reset.setReg .stp (State.reset.stp - 1#8)).reg .stp = some 0xFF#8 ∧ Instr.form .callRc = some .call := by decide

theorem test_witness_StoreEffects :
    Instr.form .stoiRa = some (.stoi .ra) ∧ State.reset.load true State.reset.pc = 0x00#8 ∧
      State.reset.reg .ra = some 0x00#8 ∧ Instr.form .stoPgmRcRc = some (.sto .rc .rc) ∧
      State.reset.reg .rc = some 0x00#8 ∧ Instr.form .stoAtStpPc = some (.sto .stp .pc) := by decide

theorem test_witness_IncrementEffect :
    Instr.form .incStp = some (.inc .stp) ∧ State.reset.reg .stp = some 0x00#8 := by decide

theorem test_witness_AddSubtractEffects :
    State.reset.reg .rb = some 0x00#8 ∧ Instr.form .addRb = some (.add .rb) ∧ Instr.form .subRb = some (.sub .rb) ∧
      Instr.form .rsbRb = some (.rsb .rb) := by decide

theorem test_witness_CompareEffects :
    State.reset.reg .rb = some 0x00#8 ∧ Instr.form .cmpRbRb = some (.cmpRegRb .rb) ∧
      Instr.form .cmpRbRbRev = some (.cmpRbReg .rb) := by decide

theorem test_witness_LcdRegisterEffects :
    State.reset.reg .pc = some 0x00#8 ∧ Instr.form .lccRegPc = some (.lccReg .pc) ∧
      Instr.form .lcdRegPc = some (.lcdReg .pc) := by decide

/-- A sequence that rule R157 admits for `SEQ_LCC_IMM`. -/
theorem test_lccImm_admissible : lccImmAdmissible someSeqs.lccImm :=
  ⟨by decide, fun _ _ hq =>
    ⟨_, runOpen_eq_afterSteps hq (by decide) (keepsOpcode_of_without (by decide) _ _), rfl⟩⟩

/-- A sequence of `lcc imm` that latches its own opcode again from the address still in MAR, as rules R115 and R157 allow. -/
def lccImmRelatch : List SigSet :=
  [[.pgm, .bwMem, .irw], [.w .pc, .maw], [.pgm, .bwMem, .pcc, .lcd, .lcdCommand, .tr]]

theorem test_lccImm_relatch : lccImmAdmissible lccImmRelatch := by
  refine ⟨by decide, fun s h hq => ?_⟩
  obtain ⟨-, hir, -, hload, -⟩ := h
  have hlatch : (applySet [.pgm, .bwMem, .irw] s).ir = 0x7E#8 := hload
  refine ⟨_, runOpen_eq_afterSteps hq (by decide) ((keepsOpcode_cons_iff _ _ _ _).2
    ⟨.inr (.inr (by rw [hlatch]; rfl)), keepsOpcode_of_without (by decide) _ _⟩), ?_⟩
  have h : afterSteps lccImmRelatch s =
      { s with
        ir := s.load true s.mar, mar := s.pc, pc := s.pc + 1#8
        lcd := s.lcd.sendCommand (s.load true s.pc), mt := 0#3 } := rfl
  rw [h, hload, ← hir]
  rfl

/-- A sequence that rule R153 admits for `SEQ_LCC_PGM`: the third step's strobe sends a program byte. -/
theorem test_lccPgm_admissible : lccPgmAdmissible someSeqs.lccPgm := by
  refine ⟨by decide, fun s h hq => ?_⟩
  obtain ⟨hmt, hir, -, -, hh⟩ := h
  have hk : keepsOpcode .lccPgm someSeqs.lccPgm s = true := keepsOpcode_of_without (by decide) _ _
  refine ⟨_, runOpen_eq_afterSteps hq (by decide) hk, 2, _, (afterSteps (someSeqs.lccPgm.take 2) s).mar,
    runFor_eq_afterSteps (by decide) 2 0 s hq (by rw [hir]; rfl) (by rw [hmt]; rfl) hh hk (by decide), ?_, rfl⟩
  show (s.mt + 1#3 + 1#3).toNat = 4
  rw [hmt]
  rfl

/-- `lcc pgm` with a parameter that latches the opcode again before its `LCD` step (rules R115, R153). -/
theorem test_step_lccPgm_relatch :
    next? (stepOn [0x76#8, 0x02#8]
        { State.reset with
          lcd := { Lcd.make 1 1 with cursor := 1 }
          openSeqs := { OpenSupply.nothing with
            lccPgm := some [[.pgm, .bwMem, .irw], [.w .pc, .maw], [.pgm, .bwMem, .pcc, .lcd, .lcdCommand], [.tr]] } })
      (fun t => t.pc == 0x02#8 && t.lcd.cursor == 0 && t.ir == 0x76#8 && t.mt == 0#3) = true := by
  decide

/-- A parameter that latches another opcode goes on with that opcode's words: `0xC1` `inc Ra`, whose second word moves Acc
to Ra (rules R21, R113, R200). -/
theorem test_step_openLatchesOther :
    next? (stepOn [0x7E#8, 0xC1#8]
        { State.reset with
          acc := 0x01#8
          rd := 0xC1#8
          openSeqs := { OpenSupply.nothing with
            lccImm := some [[.w .rd, .irw], [.w .pc, .lcd, .lcdCommand], [.tr]] } })
      (fun t => t.pc == 0x01#8 && t.ra == 0x01#8 && t.ir == 0xC1#8 && t.mt == 0#3) = true := by
  decide

/-- The state after the fetch of an OPEN opcode that stands at address 0, with every parameter supplied. -/
def openState (op : Byte) : State :=
  { suppliedState with pmem := [(0, op)], pc := 0x01#8, ir := op, mt := 2#3, acc := 0x02#8 }

theorem test_witness_OpenLcdEffects :
    Instr.form .lccImm = some .lccImm ∧ (openState 0x7E#8).openSeqs.lccImm = some someSeqs.lccImm ∧
      lccImmAdmissible someSeqs.lccImm ∧ afterFetch 0x7E#8 (openState 0x7E#8) ∧
      Instr.form .lccPgm = some .lccPgm ∧ (openState 0x76#8).openSeqs.lccPgm = some someSeqs.lccPgm ∧
      lccPgmAdmissible someSeqs.lccPgm ∧ afterFetch 0x76#8 (openState 0x76#8) ∧ lccPgmShape someSeqs.lccPgm = true ∧
      seqFaultless someSeqs.lccPgm = true ∧ keepsOpcode .lccPgm someSeqs.lccPgm (openState 0x76#8) = true ∧
      ∀ S ∈ someSeqs.lccPgm, Signal.mw ∉ S :=
  ⟨rfl, rfl, test_lccImm_admissible, ⟨rfl, rfl, rfl, rfl, rfl⟩, rfl, rfl, test_lccPgm_admissible,
    ⟨rfl, rfl, rfl, rfl, rfl⟩, by decide, by decide, by decide, by decide⟩

theorem addOut_pass (v : Byte) : addOut v 0#8 false = { res := v, carry := false, overflow := false } := by
  have h : v.toNat < 256 := v.isLt
  simp [addOut]
  omega

theorem addOut_down (v : Byte) : (addOut v 0xFF#8 false).res = v - 1#8 := by
  have h : BitVec.ofNat 8 (v.toNat + 255) = v - 1#8 := by bv_omega
  simp [addOut, h]

/-- A sequence of `calli` that pushes the address after the immediate. -/
def calliNext : List SigSet :=
  [[.w .stp, .alu .aMinusB, .alw, .pcc], [.bwAlu, .stpw, .maw], [.w .pc, .mw],
    [.w .pc, .alu .aMinusB, .alw], [.bwAlu, .maw], [.pgm, .bwMem, .r .pc, .tr]]

/-- A sequence of `calli` that latches its own opcode again and then pushes the immediate's address. -/
def calliRelatch : List SigSet :=
  [[.pgm, .bwMem, .irw], [.w .stp, .alu .aMinusB, .alw], [.bwAlu, .stpw, .maw], [.w .pc, .mw], [.w .pc, .maw],
    [.pgm, .bwMem, .r .pc, .tr]]

theorem applySet_relatch (s : State) :
    applySet [.pgm, .bwMem, .irw] s = { s with ir := s.load true s.mar, mt := s.mt + 1#3 } := rfl

theorem applySet_stackDown (s : State) : applySet [.w .stp, .alu .aMinusB, .alw] s =
    { s.latch (addOut s.stp (0#8 ^^^ 0xFF#8) false) with mt := s.mt + 1#3 } := rfl

theorem applySet_stackDownNext (s : State) : applySet [.w .stp, .alu .aMinusB, .alw, .pcc] s =
    { s.latch (addOut s.stp (0#8 ^^^ 0xFF#8) false) with pc := s.pc + 1#8, mt := s.mt + 1#3 } := rfl

theorem applySet_accToStack (s : State) :
    applySet [.bwAlu, .stpw, .maw] s = { s with stp := s.acc, mar := s.acc, mt := s.mt + 1#3 } := rfl

theorem applySet_pcToMem (s : State) : applySet [.w .pc, .mw] s =
    { s with dmem := s.dmem.write s.mar.toNat s.pc, mt := s.mt + 1#3 } := rfl

theorem applySet_pcPass (s : State) : applySet [.w .pc, .alu .aPlusB, .alw] s =
    { s.latch (addOut s.pc 0#8 false) with mt := s.mt + 1#3 } := rfl

theorem applySet_pcDown (s : State) : applySet [.w .pc, .alu .aMinusB, .alw] s =
    { s.latch (addOut s.pc (0#8 ^^^ 0xFF#8) false) with mt := s.mt + 1#3 } := rfl

theorem applySet_pcToMar (s : State) : applySet [.w .pc, .maw] s = { s with mar := s.pc, mt := s.mt + 1#3 } := rfl

theorem applySet_accToMar (s : State) : applySet [.bwAlu, .maw] s = { s with mar := s.acc, mt := s.mt + 1#3 } := rfl

theorem applySet_jump (s : State) :
    applySet [.pgm, .bwMem, .r .pc, .tr] s = { s with pc := s.load true s.mar, mt := 0#3 } := rfl

theorem test_calli_pushesImmediateAddress : calliAdmissible false calliSame := by
  refine ⟨by decide, fun s _ hq =>
    ⟨_, runOpen_eq_afterSteps hq (by decide) (keepsOpcode_of_without (by decide) _ _), ?_⟩⟩
  rw [calliSame, afterSteps_cons, applySet_stackDown, afterSteps_cons, applySet_accToStack, afterSteps_cons,
    applySet_pcToMem, afterSteps_cons, applySet_pcPass, afterSteps_cons, applySet_accToMar, afterSteps_cons,
    applySet_jump, afterSteps_nil]
  simp [calliEffect, State.latch, State.load, State.memory, addOut_down, addOut_pass,
    Memory.read_write_same, -BitVec.toNat_sub]

theorem test_calli_pushesNextAddress : calliAdmissible true calliNext := by
  refine ⟨by decide, fun s _ hq =>
    ⟨_, runOpen_eq_afterSteps hq (by decide) (keepsOpcode_of_without (by decide) _ _), ?_⟩⟩
  have hp : s.pc + 1#8 - 1#8 = s.pc := by bv_omega
  rw [calliNext, afterSteps_cons, applySet_stackDownNext, afterSteps_cons, applySet_accToStack, afterSteps_cons,
    applySet_pcToMem, afterSteps_cons, applySet_pcDown, afterSteps_cons, applySet_accToMar, afterSteps_cons,
    applySet_jump, afterSteps_nil]
  simp [calliEffect, State.latch, State.load, State.memory, addOut_down, hp,
    Memory.read_write_same, -BitVec.toNat_sub]

theorem test_calli_relatch : calliAdmissible false calliRelatch := by
  refine ⟨by decide, fun s hs hq => ?_⟩
  have hkeep : keepsOpcode .calli calliRelatch s = true := (keepsOpcode_cons_iff _ _ _ _).2
    ⟨.inr (.inr (by rw [applySet_relatch]; exact congrArg formOf hs.2.2.2.1)), keepsOpcode_of_without (by decide) _ _⟩
  refine ⟨_, runOpen_eq_afterSteps hq (by decide) hkeep, ?_⟩
  rw [calliRelatch, afterSteps_cons, applySet_relatch, afterSteps_cons, applySet_stackDown, afterSteps_cons,
    applySet_accToStack, afterSteps_cons, applySet_pcToMem, afterSteps_cons, applySet_pcToMar, afterSteps_cons,
    applySet_jump, afterSteps_nil]
  simp [calliEffect, State.latch, State.load, State.memory, addOut_down,
    Memory.read_write_same, -BitVec.toNat_sub]

/-- Both return addresses of `calli` have an admissible sequence. -/
theorem test_witness_OpenStoreEffects :
    Instr.form .calli = some .calli ∧ (openState 0xB8#8).openSeqs.calli = some calliSame ∧
      calliAdmissible false calliSame ∧ calliAdmissible true calliNext ∧ afterFetch 0xB8#8 (openState 0xB8#8) ∧
      Instr.form .stoiImmImm = some .stoiImm ∧ (openState 0xBF#8).openSeqs.stoi = some stoiFromAcc ∧
      stoiShape stoiFromAcc = true ∧ seqFaultless stoiFromAcc = true ∧
      keepsOpcode .stoiImm stoiFromAcc (openState 0xBF#8) = true ∧ afterFetch 0xBF#8 (openState 0xBF#8) ∧
      (openState 0xBF#8).acc = (openState 0xBF#8).pc + 1#8 :=
  ⟨rfl, rfl, test_calli_pushesImmediateAddress, test_calli_pushesNextAddress, ⟨rfl, rfl, rfl, rfl, rfl⟩, rfl, rfl,
    by decide, by decide, by decide, ⟨rfl, rfl, rfl, rfl, rfl⟩, rfl⟩

theorem test_witness_OpenEffectOfAnySequence :
    Instr.form .calli = some .calli ∧ Form.isOpen .calli = true ∧ (openState 0xB8#8).mt = 2#3 ∧
      formOf (openState 0xB8#8).ir = .calli ∧ (openState 0xB8#8).halted = false ∧
      (openState 0xB8#8).openSeq .calli = some calliSame ∧ seqFaultless calliSame = true ∧
      keepsOpcode .calli calliSame (openState 0xB8#8) = true ∧
      suppliedState.openSeqs.lccImm = some someSeqs.lccImm ∧ lccImmShape someSeqs.lccImm = true ∧
      suppliedState.openSeqs.lccPgm = some someSeqs.lccPgm ∧ lccPgmShape someSeqs.lccPgm = true ∧
      suppliedState.openSeqs.calli = some calliSame ∧ calliShape calliSame = true ∧
      suppliedState.openSeqs.stoi = some stoiFromAcc ∧ stoiShape stoiFromAcc = true := by
  decide

theorem test_witness_FrameRegisters :
    Instr.form .nop = some .nop ∧ exec .nop State.reset = .next State.reset.endInstr ∧ Reg.ra ≠ .pc ∧
      Reg.ra ∉ Form.destinations .nop ∧ Reg.ra ∉ Form.destinations (.pop .rb) ∧ Form.isOpen .nop = false ∧
      suppliedState.openSeq .calli = some calliSame ∧ keepsOpcode .calli calliSame suppliedState = true ∧
      (∀ S ∈ calliSame, Signal.r .ra ∉ S) ∧ next? (exec .calli suppliedState) (fun _ => true) = true := 
  ⟨rfl, rfl, by decide, by decide, by decide, rfl, rfl, by decide, by decide, by decide⟩

theorem test_witness_FrameAccFlags :
    Instr.form .nop = some .nop ∧ exec .nop State.reset = .next State.reset.endInstr ∧ Form.latchesAlu .nop = false ∧
      Instr.form .ret = some .ret ∧ next? (exec .ret State.reset) (fun _ => true) = true ∧
      smallSupplied.openSeq .lccImm = some someSeqs.lccImm ∧ keepsOpcode .lccImm someSeqs.lccImm smallSupplied = true ∧ (∀ S ∈ someSeqs.lccImm, Signal.alw ∉ S) ∧
      next? (exec .lccImm smallSupplied) (fun _ => true) = true := 
  ⟨rfl, rfl, rfl, rfl, by decide, rfl, by decide, by decide, by decide⟩

theorem test_witness_FrameMemory :
    Instr.form .nop = some .nop ∧ exec .nop State.reset = .next State.reset.endInstr ∧
      Form.storesAt .nop State.reset ≠ some (false, 0x00#8) ∧ Form.storesAt (.push .ra) State.reset ≠ some (true, 0xFF#8) ∧
      suppliedState.openSeq .calli = some calliSame ∧ keepsOpcode .calli calliSame suppliedState = true ∧
      keepsOpcode .stoiImm stoiFromAcc suppliedState = true ∧ (∀ S ∈ calliSame, Signal.mw ∈ S → S.contains .pgm ≠ true) ∧
      suppliedState.openSeq .stoiImm = some stoiFromAcc ∧ ∀ S ∈ stoiFromAcc, Signal.mw ∈ S → S.contains .pgm ≠ false := 
  ⟨rfl, rfl, by decide, by decide, rfl, by decide, by decide, by decide, rfl, by decide⟩

theorem test_witness_FrameRest :
    Instr.form .nop = some .nop ∧ exec .nop State.reset = .next State.reset.endInstr ∧ Form.strobesLcd .nop = false ∧ Form.isOpen .nop = false ∧
      Form.nop ≠ .hlt ∧ Instr.lcdClear.space = .lcdCommand ∧ next? (exec .lcdClear State.reset) (fun _ => true) = true ∧
      suppliedState.openSeq .calli = some calliSame ∧ keepsOpcode .calli calliSame suppliedState = true ∧
      Form.strobesLcd .calli = false ∧ ∀ S ∈ calliSame, Signal.irw ∉ S := 
  ⟨rfl, rfl, rfl, rfl, by decide, rfl, by decide, rfl, by decide, rfl, by decide⟩

theorem test_witness_DecodeEncode :
    (Instr.lcdSetDramAddr 0x7F#8).wf = true ∧ Instr.stoiImmImm.wf = true := by decide

theorem test_witness_LcdCommandByte :
    0x80 ≤ (0x80#8).toNat ∧ 0x40 ≤ (0x7F#8).toNat ∧ (0x7F#8).toNat < 0x80 ∧ 0x20 ≤ (0x3F#8).toNat ∧
      (0x3F#8).toNat < 0x40 ∧ 0x10 ≤ (0x10#8).toNat ∧ (0x10#8).toNat < 0x20 ∧ 0x08 ≤ (0x0F#8).toNat ∧
      (0x0F#8).toNat < 0x10 ∧ 0x04 ≤ (0x04#8).toNat ∧ (0x04#8).toNat < 0x08 ∧ 0x02 ≤ (0x03#8).toNat ∧
      (0x03#8).toNat < 0x04 ∧ (0x01#8).toNat = 0x01 ∧ (0x00#8).toNat = 0x00 := by decide

theorem test_witness_LcdWriteByte :
    1 ≠ (Lcd.make 1 1).cursor := by decide

/-- Both columns and both lines of a 2×2 device: the next cell, the next line and the wrap. -/
theorem test_witness_AdvanceVisitsVisibleCells :
    geometryOk (Lcd.make 2 2).width (Lcd.make 2 2).height = true ∧ 1 < (Lcd.make 2 2).height ∧
      0 < (Lcd.make 2 2).width ∧ 1 < (Lcd.make 2 2).width := by decide

theorem test_witness_LcdInvariantKept :
    Lcd.new? 1 1 = some (Lcd.make 1 1) ∧ (Lcd.make 1 1).inv = true ∧ (Lcd.make 2 2).inv = true := by decide

theorem test_witness_UpdatePixelsDrawsGlyphs :
    (Lcd.make 2 2).inv = true ∧ 1 < (Lcd.make 2 2).height ∧ 1 < (Lcd.make 2 2).width ∧ 4 < 5 ∧ 7 < 8 ∧
      inGlyph 5 0 = false ∧ inGlyph 0 8 = false := by decide

theorem test_witness_PixelStateReads :
    10 < (Lcd.make 2 2).pixelsWidth ∧ 16 < (Lcd.make 2 2).pixelsHeight ∧
      pixelAt (Lcd.make 2 2).pix 10 16 = some .unset ∧ ¬((0 : Int) ≤ -1 ∧ (-1 : Int) < 11 ∧ (0 : Int) ≤ 0 ∧ (0 : Int) < 17) ∧
      (Lcd.make 2 2).inv = true ∧ inGlyph 5 0 = false ∧ inGlyph 10 16 = true := by decide

theorem test_witness_WriteThenReadLine :
    (Lcd.make 2 2).inv = true ∧ (Lcd.make 2 2).entryMode.getLsbD 1 = true ∧ (0x00#8) ∉ [0x48#8, 0x69#8] ∧
      [0x48#8, 0x69#8].length ≤ (Lcd.make 2 2).width ∧ 0 < 1 := by decide

theorem test_witness_LcdConstruction :
    State.setup.running = false ∧ (1 ≤ 1 ∧ 1 ≤ 4 ∧ 4 ≤ 4) ∧ ¬(1 ≤ 0 ∧ 1 ≤ 1 ∧ 1 ≤ 4) ∧ ¬(1 ≤ 1 ∧ 1 ≤ 5 ∧ 5 ≤ 4) ∧
      0 < 1 * 6 - 1 ∧ 7 < 1 * 9 - 1 := by decide

theorem test_witness_HaltAndResume :
    ({ State.reset with halted := true, mt := 2#3 } : State).halted = true ∧ State.reset.ir = 0x00#8 ∧
      ({ State.reset with halted := true, mt := 2#3 } : State).mt = 2#3 := by decide

theorem test_witness_RomFunction :
    2 ≤ (2#3).toNat ∧ (2#3).toNat - 2 < (seqOf someSeqs (formOf 0x01#8) State.reset.flags).length ∧
      (seqOf someSeqs (formOf 0x01#8) State.reset.flags).length ≤ (3#3).toNat - 2 := by decide

theorem test_witness_OneBusDriver :
    someSeqs.wf = true := by decide

theorem test_witness_SequenceShape :
    someSeqs.wf = true ∧ (0x00#8 : Byte) = 0x00#8 ∧ (0xFF#8 : Byte) ≠ 0x00#8 ∧
      suppliedState.lacks (formOf 0xB8#8) = false := by decide

theorem test_witness_FlagIndependence :
    (0x37#8).toNat < 0x38 ∧ 0x3F < (0x40#8).toNat ∧ (4#3 : BitVec 3) ≠ 2#3 ∧ (4#3 : BitVec 3) ≠ 3#3 := by decide

theorem test_witness_ControlWordBits :
    someLayout.wf = true ∧ bitOf someLayout .tr = some 21 ∧ Signal.alu .aAndB ∈ stepZero ∧
      SigSet.oneMode stepZero = true ∧ Signal.w .pc ∈ stepZero ∧ SigSet.oneDriver stepZero = true ∧ 2 < 3 ∧
      someLayout.bwMem = .bit 23 ∧ someLayout.bwAlu ≠ .bit 23 ∧
      Signal.bwMem ∈ fetch1 ∧ SigSet.oneDriver fetch1 = true ∧ someLayout.bwAlu = .code 6#3 ∧
      Signal.bwAlu ∈ stepAccToStack ∧ ({ someLayout with bwAlu := .bit 24, bwMem := .code 7#3 } : Layout).wf = true ∧
      SigSet.oneDriver stepAccToStack = true := by decide

theorem test_witness_MicrostepCommit :
    commit fetch0 State.reset = .next (applySet fetch0 State.reset) ∧ busValue fetch0 State.reset = some 0x00#8 ∧
      Signal.r .pc ∉ fetch0 ∧ Signal.maw ∈ fetch0 ∧ Signal.irw ∉ fetch0 ∧ Signal.lcd ∉ fetch0 ∧
      faultOf [.w .ra, .r .stp, .alu .aPlusB, .alw, .tr] = none ∧ faultOf [.bwAlu, .stpw, .maw] = none ∧
      faultOf fetch1 = none ∧ faultOf [.w .ra, .mw, .tr] = none ∧ faultOf [.w .ra, .lcd, .lcdData] = none ∧
      faultOf [.w .ra, .lcd, .lcdCommand] = none := ⟨rfl, rfl, by decide, by decide, by decide, by decide, rfl, rfl, rfl, rfl, rfl, rfl⟩

theorem test_witness_AluResultFlags :
    commit fetch0 State.reset = .next (applySet fetch0 State.reset) ∧ Signal.alw ∉ fetch0 ∧
      commit stepZero State.reset = .next (applySet stepZero State.reset) ∧ Signal.alw ∈ stepZero := ⟨rfl, by decide, rfl, by decide⟩

theorem test_witness_HostMoves :
    ({ State.setup with ops := [.lcdData 0x41#8] } : State).ops = .lcdData 0x41#8 :: [] ∧ State.setup.running = false ∧
      State.reset.running = true ∧ HostOp.lcdData 0x41#8 ≠ .lcdUpdatePixels ∧ HostOp.lcdData 0x41#8 ≠ .resume ∧
      HostOp.lcdData 0x41#8 ≠ .reset ∧ ({ State.reset with halted := true } : State).halted = true ∧
      State.reset.halted = false ∧ geometryOk 1 4 = true := by decide

end Sys2Proof.Tests
end

section
/-! PROOFS. The statements of 20_memory.md: the address of the decoder ROM and its four banks (rules R50, R52 and R119).
An address and a word are joins of neighbouring bit fields, so each reading back is a law of appended bit vectors. -/

namespace Sys2Proof.Machine

/-! ### The fields of a ROM address (rule R50) -/

@[simp] theorem addressMt_romAddress (op : Byte) (mt : BitVec 3) (f : Flags) : addressMt (romAddress op mt f) = mt :=
  BitVec.extractLsb'_append_eq_right

@[simp] theorem addressOp_romAddress (op : Byte) (mt : BitVec 3) (f : Flags) : addressOp (romAddress op mt f) = op := by
  unfold addressOp romAddress
  rw [BitVec.extractLsb'_append_eq_of_le (Nat.le_refl 3)]
  exact BitVec.extractLsb'_append_eq_right

@[simp] theorem addressFlags_romAddress (op : Byte) (mt : BitVec 3) (f : Flags) :
    addressFlags (romAddress op mt f) = f := by
  simp only [addressFlags, romAddress, BitVec.getLsbD_append, BitVec.getLsbD_ofBool]
  rfl

/-- The one-bit field at a position is that bit. -/
theorem ofBool_getLsbD_eq_extractLsb' {w : Nat} (x : BitVec w) (i : Nat) :
    BitVec.ofBool (x.getLsbD i) = x.extractLsb' i 1 := by
  apply BitVec.eq_of_getLsbD_eq
  intro j hj
  obtain rfl : j = 0 := by omega
  simp

/-- The six fields of an address are neighbours and cover its 15 bits, so their join is the address. -/
@[simp] theorem romAddress_address_fields (a : BitVec 15) :
    romAddress (addressOp a) (addressMt a) (addressFlags a) = a := by
  simp only [romAddress, addressOp, addressMt, addressFlags, ofBool_getLsbD_eq_extractLsb',
    BitVec.extractLsb'_append_extractLsb'_eq_extractLsb']
  exact BitVec.extractLsb'_eq_self

/-! ### The banks and their images (rules R52 and R119) -/

/-- The four banks' bytes are neighbours and cover the word's 32 bits, bank 0 the lowest. -/
theorem append_banks_eq_romWord (L : Layout) (P : OpenSeqs) (a : BitVec 15) :
    bank L P 3 a ++ bank L P 2 a ++ bank L P 1 a ++ bank L P 0 a = romWord L P a := by
  simp only [bank, Fin.coe_ofNat_eq_mod, BitVec.extractLsb'_append_extractLsb'_eq_extractLsb']
  exact BitVec.extractLsb'_eq_self

@[simp] theorem length_bankImage (L : Layout) (P : OpenSeqs) (k : Fin 4) : (bankImage L P k).length = 2 ^ 15 := by
  rw [bankImage, List.length_map, List.length_range]

/-- The image lists its bytes in increasing address order: an address is below 2^15, and is the bit vector of its own
offset. -/
theorem bankImage_getElem?_toNat (L : Layout) (P : OpenSeqs) (k : Fin 4) (a : BitVec 15) :
    (bankImage L P k)[a.toNat]? = some (bank L P k a) := by
  rw [bankImage, List.getElem?_map, List.getElem?_range a.isLt, Option.map_some, BitVec.ofNat_toNat,
    BitVec.setWidth_eq]

/-- Settles O55: the fields of an address are read back from the bits it puts them in, and the banks' bytes from the
word. -/
theorem romAddressAndBanks : Obligations.RomAddressAndBanks := by
  unfold Obligations.RomAddressAndBanks
  refine ⟨fun op mt f => ?fields, fun a => ?bits, fun L P a => ?banks⟩
  case fields =>
    exact ⟨addressMt_romAddress op mt f, addressOp_romAddress op mt f, addressFlags_romAddress op mt f⟩
  case bits => exact ⟨romAddress_address_fields a, rfl, rfl, rfl, rfl, rfl, rfl⟩
  case banks =>
    exact ⟨rfl, append_banks_eq_romWord L P a,
      fun k => ⟨length_bankImage L P k, bankImage_getElem?_toNat L P k a⟩⟩

end Sys2Proof.Machine
end

section
/-! PROOFS. The statements of 30_encoding.md: an opcode's fields (rule R70) read from the join of their codes, and with
them the conditional jumps, whose source field is a flag selector (rule R74). -/

namespace Sys2Proof

/-! ### The fields of an opcode (rule R70) -/

@[simp] theorem opGroup_append (g : BitVec 2) (d s : BitVec 3) : opGroup (g ++ d ++ s) = Group.ofCode g := by
  unfold opGroup
  rw [BitVec.extractLsb'_append_eq_of_le (by decide), BitVec.extractLsb'_append_eq_left]

@[simp] theorem opDest_append (g : BitVec 2) (d s : BitVec 3) : opDest (g ++ d ++ s) = Reg.ofCode d := by
  unfold opDest
  rw [BitVec.extractLsb'_append_eq_of_le (Nat.le_refl 3), BitVec.extractLsb'_append_eq_right]

@[simp] theorem opSrc_append (g : BitVec 2) (d s : BitVec 3) : opSrc (g ++ d ++ s) = Reg.ofCode s := by
  unfold opSrc
  rw [BitVec.extractLsb'_append_eq_right]

/-! ### Codes read back -/

@[simp] theorem Group.ofCode_code (g : Group) : Group.ofCode g.code = g := by
  cases g <;> rfl

@[simp] theorem Reg.ofCode_code (r : Reg) : Reg.ofCode r.code = r := by
  cases r <;> rfl

@[simp] theorem Reg.code_ofCode : ∀ c : BitVec 3, (Reg.ofCode c).code = c := by
  decide

@[simp] theorem Cond.ofCode_code (c : Cond) : Cond.ofCode c.code = c := by
  cases c <;> rfl

/-! ### The conditional jumps (rule R74) -/

/-- With destination code 7 the MOV dispatch takes its first line, whatever the source. -/
theorem formOfMov_imm (s : Reg) : formOfMov .imm s = .condJump (Cond.ofCode s.code) :=
  if_pos rfl

/-- The dispatch reads the source field as a register, and a register's code is the field it was read from: so the
selector comes through unchanged. -/
theorem formOf_jumpByte (c : Cond) : formOf (jumpByte c) = .condJump c := by
  have hgroup : opGroup (jumpByte c) = .mov := by simp [jumpByte]
  have hdest : opDest (jumpByte c) = .imm := by simp [jumpByte]
  have hsel : (opSrc (jumpByte c)).code = c.code := by simp [jumpByte]
  simp only [formOf, hgroup, hdest, formOfMov_imm, hsel, Cond.ofCode_code]

/-- Settles O39: each opcode of the statement is the jump byte of its condition. -/
theorem flagSelectors : Obligations.FlagSelectors := by
  unfold Obligations.FlagSelectors
  refine ⟨?c, ?z, ?o, ?nn, ?n, ?no, ?nz, ?nc, fun f => ?holds, ?complements⟩
  case c => exact formOf_jumpByte .carry
  case z => exact formOf_jumpByte .zero
  case o => exact formOf_jumpByte .oflow
  case nn => exact formOf_jumpByte .notNeg
  case n => exact formOf_jumpByte .neg
  case no => exact formOf_jumpByte .notOflow
  case nz => exact formOf_jumpByte .notZero
  case nc => exact formOf_jumpByte .notCarry
  case holds => exact ⟨rfl, rfl, rfl, rfl, rfl, rfl, rfl, rfl⟩
  case complements => decide

end Sys2Proof
end

section
/-! PROOFS. The statements of 40_fetch_sequencer.md: the word that the ROM holds at each microtime (rules R111 to R114).
One equation per range of the counter says what `rom` answers, so that later proofs need not open it. -/

namespace Sys2Proof.Machine

/-! ### The ROM by microtime -/

@[simp] theorem rom_mt_zero (P : OpenSeqs) (op : Byte) (f : Flags) : rom P op 0#3 f = fetch0 := rfl

@[simp] theorem rom_mt_one (P : OpenSeqs) (op : Byte) (f : Flags) : rom P op 1#3 f = fetch1 := rfl

/-- From microtime 2 on, the ROM reads the opcode's sequence, two behind the counter (rules R113, R114). -/
theorem rom_of_two_le (P : OpenSeqs) (op : Byte) (f : Flags) {mt : BitVec 3} (h : 2 ≤ mt.toNat) :
    rom P op mt f = ((seqOf P (formOf op) f)[mt.toNat - 2]?).getD filler := by
  have h0 : mt ≠ 0#3 := by rintro rfl; exact absurd h (by decide)
  have h1 : mt ≠ 1#3 := by rintro rfl; exact absurd h (by decide)
  rw [rom, if_neg h0, if_neg h1]

/-- Within the sequence the ROM holds its steps in order (rule R113). -/
theorem rom_within_seq (P : OpenSeqs) (op : Byte) (f : Flags) {mt : BitVec 3} (h : 2 ≤ mt.toNat)
    (hlt : mt.toNat - 2 < (seqOf P (formOf op) f).length) :
    rom P op mt f = (seqOf P (formOf op) f)[mt.toNat - 2] := by
  rw [rom_of_two_le P op f h, List.getElem?_eq_getElem hlt, Option.getD_some]

/-- Past the sequence's end the ROM holds the filler (rule R114). -/
theorem rom_past_seq (P : OpenSeqs) (op : Byte) (f : Flags) {mt : BitVec 3} (h : 2 ≤ mt.toNat)
    (hle : (seqOf P (formOf op) f).length ≤ mt.toNat - 2) : rom P op mt f = filler := by
  rw [rom_of_two_le P op f h, List.getElem?_eq_none hle, Option.getD_none]

/-- Settles O50: the two fetch words, and from microtime 2 on the sequence or, past it, the filler. -/
theorem romFunction : Obligations.RomFunction := by
  unfold Obligations.RomFunction
  refine fun P op f => ⟨rom_mt_zero P op f, rom_mt_one P op f, fun mt h => ⟨fun hlt => ?within, fun hle => ?past⟩⟩
  case within => rw [rom_within_seq P op f h hlt, List.getElem?_eq_getElem hlt]
  case past => exact rom_past_seq P op f h hle

end Sys2Proof.Machine
end

section
/-! PROOFS. The statements of 45_lcd.md: the device's construction, its data writes, its command decoder, the rasterizer
and what the host reads back. A command's class is the position of its highest set bit; a pixel is drawn by one cell of the
rasterizer's loop. -/

namespace Sys2Proof.Machine

/-! ### Construction (rules R223, R224) -/

theorem geometryOk_iff (width height : Nat) : geometryOk width height = true ↔ 1 ≤ width ∧ 1 ≤ height ∧ height ≤ 4 := by
  simp only [geometryOk, Bool.and_eq_true, decide_eq_true_eq, and_assoc]

/-- Outside a run the host has every move. -/
theorem outsideRun_of_not_running {s : State} (h : s.running = false) (r : Result) : outsideRun s r = r := by
  simp [outsideRun, h]

theorem hostMove_lcdNew_of_ok {width height : Nat} {s : State} (hr : s.running = false)
    (hg : geometryOk width height = true) :
    hostMove (.lcdNew width height) s = .next (s.setLcd (Lcd.make width height)) := by
  simp only [hostMove, outsideRun_of_not_running hr, Lcd.new?, if_pos hg]

theorem hostMove_lcdNew_of_not_ok {width height : Nat} {s : State} (hr : s.running = false)
    (hg : ¬geometryOk width height = true) : hostMove (.lcdNew width height) s = .refused .lcdConstruction := by
  simp only [hostMove, outsideRun_of_not_running hr, Lcd.new?, if_neg hg]

/-- Every entry of a buffer just constructed is the initial one. -/
theorem pixelAt_make {width height x y : Nat} (hx : x < width * 6 - 1) (hy : y < height * 9 - 1) :
    pixelAt (Lcd.make width height).pix x y = some .unset := by
  simp [pixelAt, Lcd.make, hx, hy]

/-- Settles O47: the bounds decide between the device just constructed and the refusal. -/
theorem lcdConstruction : Obligations.LcdConstruction := by
  unfold Obligations.LcdConstruction
  intro width height s hr
  refine ⟨fun hb => ?inside, fun hb => ?outside, rfl, rfl, rfl, rfl, rfl, fun _ => rfl, rfl, rfl,
    fun _ _ hx hy => pixelAt_make hx hy⟩
  case inside => exact hostMove_lcdNew_of_ok hr ((geometryOk_iff width height).2 hb)
  case outside => exact hostMove_lcdNew_of_not_ok hr (mt (geometryOk_iff width height).1 hb)

/-! ### Data writes (rule R232) -/

/-- Settles O41: the store is a memory write, and the cursor's rule is the one of `write_byte`. -/
theorem lcdWriteByte : Obligations.LcdWriteByte := by
  unfold Obligations.LcdWriteByte
  intro l b
  exact ⟨Memory.read_write_same _ _ _, fun o ho => Memory.read_write_other _ _ _ _ ho, rfl, rfl⟩

/-! ### The highest set bit of a command byte (rules R97, R222) -/

/-- Among the numbers below `2 ^ (k + 1)`, those with bit `k` are the ones from `2 ^ k` on. -/
theorem getLsbD_iff_two_pow_le {b : Byte} {k : Nat} (h : b.toNat < 2 ^ (k + 1)) :
    b.getLsbD k = true ↔ 2 ^ k ≤ b.toNat := by
  rw [← BitVec.testBit_toNat, Nat.testBit_eq_decide_div_mod_eq, decide_eq_true_iff]
  have hlt : b.toNat / 2 ^ k < 2 := Nat.div_lt_of_lt_mul (by rwa [← Nat.pow_succ])
  have hpos : 2 ^ k ≤ b.toNat ↔ 1 ≤ b.toNat / 2 ^ k := by rw [Nat.le_div_iff_mul_le (by positivity), one_mul]
  rw [hpos]
  generalize b.toNat / 2 ^ k = q at hlt
  omega

/-- A command byte is its class bit and its argument bits, the class bit being the highest that is set. -/
theorem commandByte_argBits {base argBits b : Byte} {k : Nat} (hbase : base.toNat = 2 ^ k)
    (hargs : argBits.toNat = 2 ^ k - 1) (hle : 2 ^ k ≤ b.toNat) (hlt : b.toNat < 2 ^ (k + 1)) :
    commandByte base argBits (b &&& argBits) = b := by
  apply BitVec.eq_of_toNat_eq
  have hmod : b.toNat % 2 ^ k = b.toNat - 2 ^ k := by
    rw [Nat.mod_eq_sub_mod hle, Nat.mod_eq_of_lt (by rw [Nat.pow_succ] at hlt; omega)]
  calc (commandByte base argBits (b &&& argBits)).toNat
      = 2 ^ k ||| b.toNat % 2 ^ k := by
        simp only [commandByte, BitVec.toNat_or, BitVec.toNat_and, hbase, hargs, Nat.and_two_pow_sub_one_eq_mod,
          Nat.mod_mod]
    _ = 2 ^ k + b.toNat % 2 ^ k := by
        simpa using (Nat.two_pow_add_eq_or_of_lt (Nat.mod_lt b.toNat (by positivity)) 1).symm
    _ = b.toNat := by omega

/-- The decoder's bit tests are the ranges of rule R222. -/
theorem decodeCommand_eq_by_range (b : Byte) : decodeCommand b =
    if 0x80 ≤ b.toNat then .lcdSetDramAddr (b &&& 0x7F#8)
    else if 0x40 ≤ b.toNat then .lcdSetCgramAddr (b &&& 0x3F#8)
    else if 0x20 ≤ b.toNat then .lcdFunctionSet (b &&& 0x1F#8)
    else if 0x10 ≤ b.toNat then .lcdShift (b &&& 0x0F#8)
    else if 0x08 ≤ b.toNat then .lcdDisplay (b &&& 0x07#8)
    else if 0x04 ≤ b.toNat then .lcdEntryMode (b &&& 0x03#8)
    else if 0x02 ≤ b.toNat then .lcdHome (b &&& 0x01#8)
    else if b.toNat = 0x01 then .lcdClear
    else .lcdNoCommand := by
  unfold decodeCommand
  refine if_ctx_congr (getLsbD_iff_two_pow_le (k := 7) b.isLt) (fun _ => rfl) fun h7 => ?_
  refine if_ctx_congr (getLsbD_iff_two_pow_le (k := 6) (Nat.lt_of_not_le h7)) (fun _ => rfl) fun h6 => ?_
  refine if_ctx_congr (getLsbD_iff_two_pow_le (k := 5) (Nat.lt_of_not_le h6)) (fun _ => rfl) fun h5 => ?_
  refine if_ctx_congr (getLsbD_iff_two_pow_le (k := 4) (Nat.lt_of_not_le h5)) (fun _ => rfl) fun h4 => ?_
  refine if_ctx_congr (getLsbD_iff_two_pow_le (k := 3) (Nat.lt_of_not_le h4)) (fun _ => rfl) fun h3 => ?_
  refine if_ctx_congr (getLsbD_iff_two_pow_le (k := 2) (Nat.lt_of_not_le h3)) (fun _ => rfl) fun h2 => ?_
  refine if_ctx_congr (getLsbD_iff_two_pow_le (k := 1) (Nat.lt_of_not_le h2)) (fun _ => rfl) fun h1 => ?_
  refine if_ctx_congr ((getLsbD_iff_two_pow_le (k := 0) (Nat.lt_of_not_le h1)).trans ?_) (fun _ => rfl) fun _ => rfl
  omega

/-! ### What a command does, by range (rules R222, R225 to R231) -/

section SendCommand
variable (l : Lcd) {b : Byte}

theorem Lcd.sendCommand_of_setDramAddr (h : 0x80 ≤ b.toNat) : l.sendCommand b = l.setDramAddr b := by
  simp (disch := omega) only [Lcd.sendCommand, if_pos]

/-- The commands with highest bit 4 to 6 have no action, and so has the byte 0. -/
theorem Lcd.sendCommand_of_noAction (h : 0x10 ≤ b.toNat ∧ b.toNat < 0x80 ∨ b.toNat = 0) : l.sendCommand b = l := by
  rcases h with ⟨h, h'⟩ | h <;>
    simp (disch := omega) only [Lcd.sendCommand, Lcd.noAction, if_pos, if_neg, ite_self]

theorem Lcd.sendCommand_of_display (h : 0x08 ≤ b.toNat) (h' : b.toNat < 0x10) : l.sendCommand b = l.display b := by
  simp (disch := omega) only [Lcd.sendCommand, if_pos, if_neg]

theorem Lcd.sendCommand_of_entryMode (h : 0x04 ≤ b.toNat) (h' : b.toNat < 0x08) :
    l.sendCommand b = l.setEntryMode b := by
  simp (disch := omega) only [Lcd.sendCommand, if_pos, if_neg]

theorem Lcd.sendCommand_of_home (h : 0x02 ≤ b.toNat) (h' : b.toNat < 0x04) : l.sendCommand b = l.home := by
  simp (disch := omega) only [Lcd.sendCommand, if_pos, if_neg]

theorem Lcd.sendCommand_of_clear (h : b.toNat = 0x01) : l.sendCommand b = l.clear := by
  simp (disch := omega) only [Lcd.sendCommand, if_pos, if_neg]

end SendCommand

/-- CLEAR zeroes every byte of DDRAM. -/
theorem Lcd.read_clear_ddram (l : Lcd) {o : Nat} (h : o < l.size) : l.clear.ddram.read o = 0#8 :=
  Memory.read_filter_below h

/-! ### A command class run as an instruction -/

section CommandClasses
variable (arg : Byte) (s : State)

theorem exec_lcdSetDramAddr : exec (.lcdSetDramAddr arg) s =
    .next (s.setLcd (s.lcd.setDramAddr (commandByte 0x80#8 0x7F#8 arg))) := rfl

theorem exec_lcdDisplay : exec (.lcdDisplay arg) s =
    .next (s.setLcd (s.lcd.display (commandByte 0x08#8 0x07#8 arg))) := rfl

theorem exec_lcdEntryMode : exec (.lcdEntryMode arg) s =
    .next (s.setLcd (s.lcd.setEntryMode (commandByte 0x04#8 0x03#8 arg))) := rfl

end CommandClasses

/-- A byte on the command port, decoded to its class and run as that instruction, is `send_command` of the byte. Where the
class uses its argument, the argument bits with the class bit put back are the byte again. -/
theorem exec_decodeCommand (b : Byte) (s : State) :
    exec (decodeCommand b) s = .next (s.setLcd (s.lcd.sendCommand b)) := by
  simp only [decodeCommand_eq_by_range, Lcd.sendCommand]
  split_ifs with h7 h6 h5 h4 h3 h2 h1 h0
  · rw [exec_lcdSetDramAddr, commandByte_argBits (k := 7) rfl rfl h7 b.isLt]
  · rfl
  · rfl
  · rfl
  · rw [exec_lcdDisplay, commandByte_argBits (k := 3) rfl rfl h3 (Nat.lt_of_not_le h4)]
  · rw [exec_lcdEntryMode, commandByte_argBits (k := 2) rfl rfl h2 (Nat.lt_of_not_le h3)]
  · rfl
  · rfl
  · rfl

theorem exec_decodeCommand_noAction {b : Byte} (s : State) (h : 0x10 ≤ b.toNat ∧ b.toNat < 0x80 ∨ b.toNat = 0) :
    exec (decodeCommand b) s = .next s := by
  rw [exec_decodeCommand, Lcd.sendCommand_of_noAction _ h]
  rfl

/-- Settles O40: every command byte runs as `send_command`, whose branches are the ranges. -/
theorem lcdCommandByte : Obligations.LcdCommandByte := by
  unfold Obligations.LcdCommandByte
  intro b s
  refine ⟨exec_decodeCommand b s, fun h => ?setDramAddr, fun h h' => ?setCgramAddr, fun h h' => ?functionSet,
    fun h h' => ?shift, fun h h' => ?display, fun h h' => ?entryMode, fun h h' => ?home,
    fun h => ⟨s.lcd.clear.ddram, ?clear, fun o ho => s.lcd.read_clear_ddram ho⟩, fun h => ?noCommand⟩
  case setDramAddr => rw [exec_decodeCommand, Lcd.sendCommand_of_setDramAddr _ h, Lcd.setDramAddr]
  case setCgramAddr => exact exec_decodeCommand_noAction s (by omega)
  case functionSet => exact exec_decodeCommand_noAction s (by omega)
  case shift => exact exec_decodeCommand_noAction s (by omega)
  case display => rw [exec_decodeCommand, Lcd.sendCommand_of_display _ h h', Lcd.display]
  case entryMode => rw [exec_decodeCommand, Lcd.sendCommand_of_entryMode _ h h', Lcd.setEntryMode]
  case home => rw [exec_decodeCommand, Lcd.sendCommand_of_home _ h h', Lcd.home]
  case clear => rw [exec_decodeCommand, Lcd.sendCommand_of_clear _ h, Lcd.clear]
  case noCommand => exact exec_decodeCommand_noAction s (.inr h)

/-! ### The pixel buffer -/

/-- A pixel write changes its entry, where there is one, and no other. -/
theorem pixelAt_setPixel (pix : List (List Pixel)) (x y x' y' : Nat) (v : Pixel) :
    pixelAt (setPixel pix x y v) x' y' =
      if x = x' ∧ y = y' then (pixelAt pix x' y').map fun _ => v else pixelAt pix x' y' := by
  simp only [pixelAt, setPixel, List.getElem?_modify]
  by_cases hx : x = x'
  · by_cases hy : y = y'
    · cases pix[x']? with
      | none => simp
      | some column =>
        simp only [hx, hy, and_self, if_true, Option.bind_some]
        exact List.getElem?_set_self'
    · cases pix[x']? <;> simp [hx, hy]
  · simp [hx]

/-- The device's invariant, its parts named (rules R32, R224, R240). -/
theorem Lcd.inv_iff (l : Lcd) : l.inv = true ↔
    geometryOk l.width l.height = true ∧ l.cursor < l.size ∧ Memory.wf l.size l.ddram = true ∧
      l.pix.length = l.pixelsWidth ∧ (∀ column ∈ l.pix, column.length = l.pixelsHeight) ∧
      ∀ x < l.pixelsWidth, ∀ y < l.pixelsHeight, inGlyph x y = false → pixelAt l.pix x y = some .unset := by
  simp only [Lcd.inv, Bool.and_eq_true, decide_eq_true_eq, beq_iff_eq, List.all_eq_true, List.mem_range, Bool.or_eq_true,
    or_iff_not_imp_left, Bool.not_eq_true, and_assoc]

/-- A buffer of its size has an entry at every pixel in range. -/
theorem Lcd.exists_pixelAt_of_inv {l : Lcd} (h : l.inv = true) {x y : Nat} (hx : x < l.pixelsWidth)
    (hy : y < l.pixelsHeight) : ∃ p, pixelAt l.pix x y = some p := by
  obtain ⟨-, -, -, hlen, hcol, -⟩ := l.inv_iff.1 h
  have hx' : x < l.pix.length := by omega
  have hy' : y < l.pix[x].length := by rw [hcol _ (List.getElem_mem hx')]; exact hy
  exact ⟨l.pix[x][y], by simp [pixelAt, hx', hy']⟩

/-! ### The rasterizer (rules R240, R241, R243) -/

/-- The pixel that a turn `(row, col, i, j)` of the loop of rule R240 draws. -/
def cellTarget : Nat × Nat × Nat × Nat → Nat × Nat
  | (row, col, i, j) => (col * 6 + i, row * 9 + j)

/-- What that turn draws there: pixel row `j` of column `i` of the glyph that the character cell's DDRAM byte shows. -/
def Lcd.cellPixel (l : Lcd) : Nat × Nat × Nat × Nat → Pixel
  | (row, col, i, j) => columnPixel (glyphColumn (l.ddram.read (row * (l.width + 1) + col)) i) j

theorem Lcd.mem_cells (l : Lcd) (row col i j : Nat) :
    (row, col, i, j) ∈ l.cells ↔ row < l.height ∧ col < l.width ∧ i < 5 ∧ j < 8 := by
  simp only [Lcd.cells, List.mem_flatMap, List.mem_map, List.mem_range, Prod.mk.injEq]
  constructor
  · rintro ⟨_, hr, _, hc, _, hi, _, hj, rfl, rfl, rfl, rfl⟩
    exact ⟨hr, hc, hi, hj⟩
  · rintro ⟨hr, hc, hi, hj⟩
    exact ⟨row, hr, col, hc, i, hi, j, hj, rfl, rfl, rfl, rfl⟩

/-- A turn of the loop changes the entry it targets, where there is one, and no other. -/
theorem Lcd.pixelAt_drawPixel (l : Lcd) (pix : List (List Pixel)) (c : Nat × Nat × Nat × Nat) (x y : Nat) :
    pixelAt (l.drawPixel pix c) x y =
      if cellTarget c = (x, y) then (pixelAt pix x y).map fun _ => l.cellPixel c else pixelAt pix x y := by
  obtain ⟨row, col, i, j⟩ := c
  simp only [cellTarget, Prod.mk.injEq]
  exact pixelAt_setPixel _ _ _ _ _ _

/-- A pixel that some turn targets, or that already holds `v`, holds `v` after the turns when all that target it draw
`v`. -/
theorem Lcd.pixelAt_foldl_drawPixel (l : Lcd) {x y : Nat} {v : Pixel} (cells : List (Nat × Nat × Nat × Nat))
    (hdraw : ∀ c ∈ cells, cellTarget c = (x, y) → l.cellPixel c = v) (pix : List (List Pixel))
    (hin : ∃ p, pixelAt pix x y = some p)
    (hv : (∃ c ∈ cells, cellTarget c = (x, y)) ∨ pixelAt pix x y = some v) :
    pixelAt (cells.foldl l.drawPixel pix) x y = some v := by
  induction cells generalizing pix with
  | nil => simpa using hv
  | cons c rest ih =>
    obtain ⟨p, hp⟩ := hin
    have hstep := l.pixelAt_drawPixel pix c x y
    have hrest : ∀ c' ∈ rest, cellTarget c' = (x, y) → l.cellPixel c' = v := fun c' hc' =>
      hdraw c' (List.mem_cons_of_mem _ hc')
    by_cases hc : cellTarget c = (x, y)
    · have hdrawn : pixelAt (l.drawPixel pix c) x y = some v := by
        rw [hstep, if_pos hc, hp, Option.map_some, hdraw c List.mem_cons_self hc]
      exact ih hrest _ ⟨v, hdrawn⟩ (.inr hdrawn)
    · rw [if_neg hc] at hstep
      refine ih hrest _ ⟨p, hstep.trans hp⟩ (hv.imp ?_ hstep.trans)
      rintro ⟨c', hmem, hc'⟩
      obtain rfl | hmem := List.mem_cons.1 hmem
      · exact absurd hc' hc
      · exact ⟨c', hmem, hc'⟩

/-- `update_pixels` draws the glyph of every character cell: one turn of its loop targets the pixel. -/
theorem Lcd.pixelAt_updatePixels {l : Lcd} (h : l.inv = true) {row col i j : Nat} (hr : row < l.height)
    (hc : col < l.width) (hi : i < 5) (hj : j < 8) :
    pixelAt l.updatePixels.pix (col * 6 + i) (row * 9 + j) = some (l.cellPixel (row, col, i, j)) := by
  have hmem : (row, col, i, j) ∈ l.cells := (l.mem_cells row col i j).2 ⟨hr, hc, hi, hj⟩
  have hx : col * 6 + i < l.pixelsWidth := by unfold Lcd.pixelsWidth; omega
  have hy : row * 9 + j < l.pixelsHeight := by unfold Lcd.pixelsHeight; omega
  refine l.pixelAt_foldl_drawPixel l.cells ?_ l.pix (Lcd.exists_pixelAt_of_inv h hx hy) (.inl ⟨_, hmem, rfl⟩)
  rintro ⟨row', col', i', j'⟩ hmem' htarget
  obtain ⟨-, -, hi', hj'⟩ := (l.mem_cells row' col' i' j').1 hmem'
  obtain ⟨hx, hy⟩ := Prod.mk.inj htarget
  obtain ⟨rfl, rfl, rfl, rfl⟩ : row' = row ∧ col' = col ∧ i' = i ∧ j' = j := by omega
  rfl

/-- A pixel of a glyph cell is drawn by the turn that its coordinates' quotients and remainders by 6 and 9 name. -/
theorem Lcd.pixelAt_updatePixels_of_inGlyph {l : Lcd} (h : l.inv = true) {x y : Nat} (hg : inGlyph x y = true)
    (hx : x < l.pixelsWidth) (hy : y < l.pixelsHeight) :
    pixelAt l.updatePixels.pix x y = some (l.cellPixel (y / 9, x / 6, x % 6, y % 9)) := by
  obtain ⟨hi, hj⟩ : x % 6 < 5 ∧ y % 9 < 8 := by simpa [inGlyph] using hg
  unfold Lcd.pixelsWidth at hx
  unfold Lcd.pixelsHeight at hy
  have hdraw := Lcd.pixelAt_updatePixels h (row := y / 9) (col := x / 6) (by omega) (by omega) hi hj
  rwa [Nat.div_add_mod', Nat.div_add_mod'] at hdraw

/-! ### Read-back (rules R237, R242) -/

theorem Lcd.pixelState_of_pixelAt {l : Lcd} {x y : Nat} {p : Pixel} (hx : x < l.pixelsWidth) (hy : y < l.pixelsHeight)
    (hp : pixelAt l.pix x y = some p) : l.pixelState x y = p.value := by
  have hrange : (0 : Int) ≤ x ∧ (x : Int) < l.pixelsWidth ∧ (0 : Int) ≤ y ∧ (y : Int) < l.pixelsHeight := by omega
  rw [Lcd.pixelState, if_pos hrange, Int.toNat_natCast, Int.toNat_natCast, hp, Option.map_some, Option.getD_some]

theorem Lcd.pixelState_out_of_range {l : Lcd} {x y : Int}
    (h : ¬(0 ≤ x ∧ x < l.pixelsWidth ∧ 0 ≤ y ∧ y < l.pixelsHeight)) : l.pixelState x y = -1 :=
  if_neg h

/-- A pixel that was never drawn answers -1, in range or not. -/
theorem Lcd.pixelState_of_unset {l : Lcd} {x y : Nat}
    (h : x < l.pixelsWidth → y < l.pixelsHeight → pixelAt l.pix x y = some .unset) : l.pixelState x y = -1 := by
  by_cases hrange : x < l.pixelsWidth ∧ y < l.pixelsHeight
  · exact Lcd.pixelState_of_pixelAt hrange.1 hrange.2 (h hrange.1 hrange.2)
  · exact Lcd.pixelState_out_of_range (by omega)

theorem Lcd.pixelState_make (width height : Nat) (x y : Int) : (Lcd.make width height).pixelState x y = -1 := by
  by_cases hsign : 0 ≤ x ∧ 0 ≤ y
  · obtain ⟨hx, hy⟩ := hsign
    lift x to Nat using hx
    lift y to Nat using hy
    exact Lcd.pixelState_of_unset pixelAt_make
  · exact Lcd.pixelState_out_of_range (by omega)

/-- A drawn pixel is `0` or `1`. -/
theorem value_columnPixel (column : Byte) (j : Nat) :
    (columnPixel column j).value = 0 ∨ (columnPixel column j).value = 1 := by
  unfold columnPixel
  split
  · exact .inr rfl
  · exact .inl rfl

/-- Settles O45: the invariant keeps the gaps undrawn, and `update_pixels` draws every pixel of a glyph cell. -/
theorem pixelStateReads : Obligations.PixelStateReads := by
  unfold Obligations.PixelStateReads
  refine ⟨fun l => ⟨rfl, rfl⟩, fun l x y p => Lcd.pixelState_of_pixelAt, fun l x y => Lcd.pixelState_out_of_range,
    Lcd.pixelState_make, fun l h x y => ⟨fun hgap => ?gap, fun hg hx hy => ?glyph⟩⟩
  case gap =>
    obtain ⟨-, -, -, -, -, hgaps⟩ := l.inv_iff.1 h
    exact Lcd.pixelState_of_unset fun hx hy => hgaps x hx y hy hgap
  case glyph =>
    rw [Lcd.pixelState_of_pixelAt (l := l.updatePixels) hx hy (Lcd.pixelAt_updatePixels_of_inGlyph h hg hx hy)]
    exact value_columnPixel _ _

end Sys2Proof.Machine
end

section
/-! PROOFS. The statements of 46_datapath_harness.md: what a set without a harness fault satisfies (rule R269), the
ALU's results and when a microstep writes the flags (rules R263, R264), and the halt, its resume and the filler after it
(rule R268). -/

namespace Sys2Proof.Machine

/-! ### Sets without a harness fault (rule R269) -/

/-- A guard that answers a fault lets the rest answer exactly when its test fails. -/
theorem ite_some_eq_none_iff {α : Type} (test : Prop) [Decidable test] (f : α) (rest : Option α) :
    (if test then some f else rest) = none ↔ ¬test ∧ rest = none := by
  by_cases h : test <;> simp [h]

/-- The conditions that rule R269 (a) to (e) asks of a set, with one driver at most (log 16): each test of `faultOf`
fails. -/
theorem faultOf_eq_none_iff (S : SigSet) : faultOf S = none ↔
    S.any Signal.isPseudoDriver = false ∧ S.any Signal.isPseudoSink = false ∧ SigSet.oneDriver S = true ∧
      (S.any Signal.isSink = true → S.any Sys2Proof.Signal.isDriver = true) ∧
      (Signal.alw ∈ S → S.any Signal.isHarnessMode = true ∧ SigSet.oneMode S = true) ∧
      (Signal.pcc ∈ S → Signal.r .pc ∉ S) ∧
      (Signal.lcd ∈ S → S.contains .lcdData ≠ S.contains .lcdCommand) := by
  simp only [faultOf, ite_some_eq_none_iff, and_true, not_and, Classical.not_imp, Bool.and_eq_true,
    Bool.and_eq_false_imp, Bool.not_eq_true, Bool.not_eq_false, Bool.not_eq_eq_eq_not, Bool.not_true,
    List.contains_iff_mem, beq_eq_false_iff_ne]

/-! ### The ALU (rules R263, R264) -/

@[simp] theorem toNat_res_addOut (x y : Byte) (cin : Bool) :
    (addOut x y cin).res.toNat = (x.toNat + y.toNat + cin.toNat) % 256 :=
  BitVec.toNat_ofNat _ 8

/-- The flags of a sum, its signs read as bit 7. -/
theorem flags_addOut (x y : Byte) (cin : Bool) : (addOut x y cin).flags =
    { c := decide (256 ≤ x.toNat + y.toNat + cin.toNat), z := (addOut x y cin).res == 0#8
      n := (addOut x y cin).res.getLsbD 7
      o := x.getLsbD 7 == y.getLsbD 7 && (addOut x y cin).res.getLsbD 7 != x.getLsbD 7 } := by
  simp only [AluOut.flags, addOut, BitVec.msb_eq_getLsbD_last]

theorem flags_andOut (a b : Byte) : (andOut a b).flags =
    { c := false, z := (andOut a b).res == 0#8, o := false, n := (andOut a b).res.getLsbD 7 } := by
  simp only [AluOut.flags, andOut, BitVec.msb_eq_getLsbD_last]

/-- The ALU answers in each of the harness's modes. -/
theorem exists_aluOut_eq_some {m : AluMode} (h : Signal.isHarnessMode (.alu m) = true) (a b : Byte)
    (cin : Bool) : ∃ out, aluOut m a b cin = some out := by
  cases m with
  | aPlusB | aMinusB | bMinusA | aAndB => exact ⟨_, rfl⟩
  | incA | aOrB | aXorB | notA => cases h

theorem SigSet.atMostOne_iff (kind : Signal → Bool) (S : SigSet) : SigSet.atMostOne kind S = true ↔
    ∀ a ∈ S, ∀ b ∈ S, kind a = true → kind b = true → a = b := by
  simp only [SigSet.atMostOne, List.all_eq_true, Bool.or_eq_true, Bool.not_eq_true', ← Bool.not_eq_true,
    Bool.and_eq_true, beq_iff_eq, ← imp_iff_not_or, and_imp]

/-- A mode select that stands alone is the mode of its set. -/
theorem aluModeOf_of_mem {S : SigSet} {m : AluMode} (hm : Signal.alu m ∈ S) (hone : SigSet.oneMode S = true) :
    aluModeOf S = some m := by
  have hsome : (aluModeOf S).isSome := List.findSome?_isSome_iff.2 ⟨_, hm, rfl⟩
  obtain ⟨m', hm'⟩ := Option.isSome_iff_exists.1 hsome
  obtain ⟨g, hg, hmode⟩ := List.exists_of_findSome?_eq_some hm'
  have hsame : g = .alu m' := by
    cases g with
    | alu n => rw [Option.some.inj hmode]
    | _ => cases hmode
  obtain rfl : m' = m := Signal.alu.inj ((SigSet.atMostOne_iff _ S).1 hone _ (hsame ▸ hg) _ hm rfl rfl)
  exact hm'

/-! ### The bus and the flags of a microstep (rules R262, R264) -/

/-- A driver that is no pseudo register puts a byte on the bus. -/
theorem exists_busValue_eq_some {S : SigSet} (hdriver : S.any Sys2Proof.Signal.isDriver = true)
    (hpseudo : S.any Signal.isPseudoDriver = false) (s : State) : ∃ a, busValue S s = some a := by
  obtain ⟨g, hg⟩ := Option.isSome_iff_exists.1 (List.find?_isSome.2 (List.any_eq_true.1 hdriver))
  have hreal : Signal.isPseudoDriver g ≠ true := List.any_eq_false.1 hpseudo g (List.mem_of_find?_eq_some hg)
  have hdrives : Sys2Proof.Signal.isDriver g = true := List.find?_some hg
  unfold busValue
  rw [hg]
  cases g with
  | w r =>
    cases r with
    | stpi | imm => exact absurd rfl hreal
    | _ => exact ⟨_, rfl⟩
  | bwMem | bwAlu => exact ⟨_, rfl⟩
  | _ => cases hdrives

theorem flags_applySet (S : SigSet) (s : State) :
    (applySet S s).flags = ((aluValue S s).map AluOut.flags).getD s.flags := rfl

theorem flags_applySet_of_not_mem_alw {S : SigSet} (h : Signal.alw ∉ S) (s : State) :
    (applySet S s).flags = s.flags := by
  simp [flags_applySet, aluValue, h]

/-- A set with `_ALW` and no fault has a byte on the bus and one of the harness's modes, and so an ALU result, whose
flags are written. -/
theorem flags_applySet_of_mem_alw {S : SigSet} (h : Signal.alw ∈ S) (hf : faultOf S = none) (s : State) :
    ∃ (m : AluMode) (a : Byte) (out : AluOut), .alu m ∈ S ∧ busValue S s = some a ∧
      aluOut m a (if S.contains .alb then s.rb else 0#8) (S.contains .alc) = some out ∧
      (applySet S s).flags = out.flags := by
  obtain ⟨hpseudo, -, -, hdriver, hmode, -, -⟩ := (faultOf_eq_none_iff S).1 hf
  obtain ⟨hharness, hone⟩ := hmode h
  obtain ⟨a, ha⟩ := exists_busValue_eq_some (hdriver (List.any_eq_true.2 ⟨_, h, rfl⟩)) hpseudo s
  obtain ⟨g, hmem, hg⟩ := List.any_eq_true.1 hharness
  obtain ⟨m, rfl⟩ : ∃ m, g = .alu m := by
    cases g with
    | alu m => exact ⟨m, rfl⟩
    | _ => cases hg
  obtain ⟨out, hout⟩ :=
    exists_aluOut_eq_some hg a (if S.contains .alb then s.rb else 0#8) (S.contains .alc)
  refine ⟨m, a, out, hmem, ha, hout, ?_⟩
  have hvalue : aluValue S s = some out := by
    rw [aluValue, if_pos (List.contains_iff_mem.2 h), ha, Option.bind_some,
      aluModeOf_of_mem hmem hone, Option.bind_some, hout]
  rw [flags_applySet, hvalue, Option.map_some, Option.getD_some]

/-- Settles O57: a sum's flags are its carry, sign and overflow, and a microstep writes those of its ALU result. -/
theorem aluResultFlags : Obligations.AluResultFlags := by
  unfold Obligations.AluResultFlags
  refine ⟨fun a b cin => ⟨?aPlusB, ?aMinusB, ?bMinusA, ?aAndB, rfl, rfl, rfl, rfl⟩, fun S s t h => ?microstep⟩
  case aPlusB | aMinusB | bMinusA => exact ⟨_, rfl, toNat_res_addOut _ _ _, flags_addOut _ _ _⟩
  case aAndB => exact ⟨_, rfl, rfl, flags_andOut a b⟩
  case microstep =>
    obtain ⟨hf, rfl⟩ := (commit_next_iff S s t).1 h
    exact ⟨fun hno => flags_applySet_of_not_mem_alw hno s, fun halw => flags_applySet_of_mem_alw halw hf s⟩

/-! ### Halt and resume (rule R268) -/

theorem commit_hlt (s : State) : commit [.hlt] s = .next { s with halted := true } := rfl

theorem commit_filler (s : State) : commit filler s = .next { s with mt := 0#3 } := rfl

/-- The sequence of `hlt` has one step, so microtime 3 is past its end. -/
theorem rom_hlt_mt_three (P : OpenSeqs) (f : Flags) : rom P 0x00#8 3#3 f = filler :=
  rom_past_seq P 0x00#8 f (by decide) (Nat.le_refl 1)

/-- A running machine that has `hlt` in IR at microtime 3 does the filler. -/
theorem microstep_hlt_mt_three {s : State} (hh : s.halted = false) (hir : s.ir = 0x00#8) (hmt : s.mt = 3#3) :
    microstep s = .next { s with mt := 0#3 } := by
  have hlacks : ¬(2 ≤ s.mt.toNat ∧ s.lacks (formOf s.ir) = true) := by
    rw [hir]
    rintro ⟨-, h⟩
    cases h
  refine (microstep_next_iff _ _).2 (.inr ⟨hh, hlacks, ?_⟩)
  have hrom : rom s.romSeqs s.ir s.mt s.flags = filler := by rw [hir, hmt, rom_hlt_mt_three]
  rw [hrom, commit_filler]

/-- Settles O48: after the resume the counter is past the one step of `hlt`, where the ROM holds the filler. -/
theorem haltAndResume : Obligations.HaltAndResume := by
  unfold Obligations.HaltAndResume
  refine ⟨commit_hlt, fun s hh => (resume_next_iff s _).2 ⟨hh, rfl⟩, fun P s hh hir hmt => ?_⟩
  have hnext : s.mt + 1#3 = 3#3 := by rw [hmt]; rfl
  refine ⟨?filler, _, (resume_next_iff s _).2 ⟨hh, rfl⟩, ?step, rom_mt_zero P _ _⟩
  case filler => rw [hir, hnext, rom_hlt_mt_three]
  case step => exact microstep_hlt_mt_three rfl hir hnext

end Sys2Proof.Machine
end

section
/-! PROOFS. The statements of 70_reset_and_hazards.md: no word of the ROM has two bus drivers (rule R332). A word is a
fetch step, the filler, or a step of the opcode's sequence; a fixed sequence names one driver at most in each step, and
an OPEN one is held to that by its shape. -/

namespace Sys2Proof.Machine

/-! ### One driver, by counting the drivers named -/

/-- A list that names at most one element of a kind has no two different ones. -/
theorem SigSet.atMostOne_of_countP_le_one {kind : Signal → Bool} {S : SigSet} (h : S.countP kind ≤ 1) :
    SigSet.atMostOne kind S = true := by
  rw [SigSet.atMostOne_iff]
  intro a ha b hb hka hkb
  rw [List.countP_eq_length_filter] at h
  have hmem : ∀ {x}, x ∈ S → kind x = true → x ∈ S.filter kind := fun hx hk => List.mem_filter.2 ⟨hx, hk⟩
  match hS : S.filter kind, hmem ha hka, hmem hb hkb with
  | [x], ha', hb' => rw [List.mem_singleton.1 ha', List.mem_singleton.1 hb']
  | _ :: _ :: _, _, _ => simp [hS] at h

/-- The program-memory select of an access through Rc drives nothing. -/
@[simp] theorem countP_isDriver_pgmIfRc_append (r : Reg) (S : SigSet) :
    (pgmIfRc r ++ S).countP Sys2Proof.Signal.isDriver = S.countP Sys2Proof.Signal.isDriver := by
  unfold pgmIfRc
  split <;> rfl

/-! ### The sequences -/

/-- Each step of a sequence that the spec gives names at most one driver, whatever the registers in it. -/
theorem countP_isDriver_le_one_of_mem_seqOf {form : Form} (hform : form.isOpen = false) (P : OpenSeqs) (f : Flags) :
    ∀ S ∈ seqOf P form f, S.countP Sys2Proof.Signal.isDriver ≤ 1 := by
  cases form with
  | lccPgm | lccImm | calli | stoiImm => cases hform
  | condJump c =>
    rw [seqOf, seqCondJump]
    split <;> decide
  | lod d s | sto d s =>
    simp only [seqOf, seqLod, seqSto, List.forall_mem_cons, countP_isDriver_pgmIfRc_append]
    exact ⟨Nat.le_refl 1, Nat.le_refl 1, List.forall_mem_nil _⟩
  -- The steps are written out, and counting looks at a signal's kind alone, never at its register.
  | _ => exact List.all_iff_forall_prop.1 rfl

/-- The four OPEN sequences of a parameter in the rules' shape have the shape of rule R115. -/
theorem seqShape_seqOf_of_wf {P : OpenSeqs} (hP : P.wf = true) {form : Form} (hform : form.isOpen = true) (f : Flags) :
    seqShape form.steps (seqOf P form f) = true := by
  simp only [OpenSeqs.wf, lccImmShape, lccPgmShape, calliShape, stoiShape, Bool.and_eq_true] at hP
  cases form with
  | lccPgm | lccImm | calli | stoiImm => simp only [seqOf, Form.steps, hP]
  | _ => cases hform

/-- A machine's ROM holds no step of an OPEN form that is not supplied. -/
theorem seqOf_romSeqs_eq_nil {s : State} {form : Form} (hform : form.isOpen = true) (h : s.openSeq form = none)
    (f : Flags) : seqOf s.romSeqs form f = [] := by
  cases form with
  | lccPgm | lccImm | calli | stoiImm => simp only [seqOf, State.romSeqs, h, Option.getD_none]
  | _ => cases hform

/-- Each OPEN step in a machine's ROM has one driver at most: the ROM takes only a sequence of the shape. -/
theorem oneDriver_of_mem_seqOf_romSeqs {s : State} {form : Form} (hform : form.isOpen = true) (f : Flags) :
    ∀ S ∈ seqOf s.romSeqs form f, SigSet.oneDriver S = true := by
  cases h : s.openSeq form with
  | none =>
    rw [seqOf_romSeqs_eq_nil hform h]
    exact List.forall_mem_nil _
  | some q =>
    obtain ⟨-, -, -, hdrv, -⟩ := seqShape_spec (openSeq_spec h).1
    rwa [seqOf_romSeqs h]

/-! ### The words of the ROM -/

/-- Where the OPEN steps have one driver at most, every word has. -/
theorem oneDriver_rom {P : OpenSeqs} {f : Flags}
    (hopen : ∀ form : Form, form.isOpen = true → ∀ S ∈ seqOf P form f, SigSet.oneDriver S = true) (op : Byte)
    (mt : BitVec 3) : SigSet.oneDriver (rom P op mt f) = true := by
  have hseq : ∀ S ∈ seqOf P (formOf op) f, SigSet.oneDriver S = true := by
    cases hform : (formOf op).isOpen with
    | true => exact hopen _ hform
    | false =>
      exact fun S hS => SigSet.atMostOne_of_countP_le_one (countP_isDriver_le_one_of_mem_seqOf hform P f S hS)
  by_cases h0 : mt = 0#3
  · rw [h0, rom_mt_zero]; rfl
  by_cases h1 : mt = 1#3
  · rw [h1, rom_mt_one]; rfl
  have h2 : 2 ≤ mt.toNat := by bv_omega
  by_cases hlt : mt.toNat - 2 < (seqOf P (formOf op) f).length
  · rw [rom_within_seq P op f h2 hlt]
    exact hseq _ (List.getElem_mem hlt)
  · rw [rom_past_seq P op f h2 (Nat.le_of_not_lt hlt)]
    rfl

/-- Settles O51: the OPEN steps have one driver at most by their shape, in a parameter and in a machine's ROM, and so
every word has. -/
theorem oneBusDriver : Obligations.OneBusDriver := by
  unfold Obligations.OneBusDriver
  refine ⟨fun P hP op mt f => oneDriver_rom (fun form hform => ?shaped) op mt, fun s op mt f => ?machine⟩
  case shaped =>
    obtain ⟨-, -, -, hdrv, -⟩ := seqShape_spec (seqShape_seqOf_of_wf hP hform f)
    exact hdrv
  case machine => exact oneDriver_rom (fun _ hform => oneDriver_of_mem_seqOf_romSeqs hform f) op mt

end Sys2Proof.Machine
end

section
/-! PROOFS. The statements of 30_encoding.md, continued: decoding and encoding are inverse to each other, in both spaces
(rules R70, R71, R91 to R97). An opcode byte is the join of its fields and a map's row the join's inverse; a command byte is
its class bit and the argument below it. -/

namespace Sys2Proof
open Sys2Proof.Machine

/-! ### Opcode bytes (rules R70, R71, R91 to R94) -/

@[simp] theorem AluMode.ofCode_code (m : AluMode) : AluMode.ofCode m.code = m := by
  cases m <;> rfl

@[simp] theorem AluMode.code_ofCode : ∀ c : BitVec 3, (AluMode.ofCode c).code = c := by
  decide

@[simp] theorem Group.code_ofCode : ∀ c : BitVec 2, (Group.ofCode c).code = c := by
  decide

/-- An opcode byte is the join of its three fields (rule R70). -/
theorem append_fields_eq (b : Byte) : b.extractLsb' 6 2 ++ b.extractLsb' 3 3 ++ b.extractLsb' 0 3 = b := by
  simp only [BitVec.extractLsb'_append_extractLsb'_eq_extractLsb']
  exact BitVec.extractLsb'_eq_self

theorem opcodeByte_fields (b : Byte) : opcodeByte (opGroup b) (opDest b) (opSrc b) = b := by
  simpa [opcodeByte, opGroup, opDest, opSrc] using append_fields_eq b

theorem aluByte_fields {b : Byte} (h : opGroup b = .alu) : aluByte (opMode b) (opSrc b) = b := by
  rw [aluByte, ← h]
  simpa [opGroup, opMode, opSrc] using append_fields_eq b

/-! Each row of a map has the byte of its row and column, and is an opcode. -/

theorem encodeByte_decodeMov (d s : Reg) : encodeByte (decodeMov d s) = opcodeByte .mov d s := by
  cases d <;> cases s <;> rfl

theorem encodeByte_decodeLod (d s : Reg) : encodeByte (decodeLod d s) = opcodeByte .lod d s := by
  cases d <;> cases s <;> rfl

theorem encodeByte_decodeSto (d s : Reg) : encodeByte (decodeSto d s) = opcodeByte .sto d s := by
  cases d <;> cases s <;> rfl

theorem encodeByte_decodeAlu (m : AluMode) (r : Reg) : encodeByte (decodeAlu m r) = aluByte m r := by
  cases m <;> cases r <;> rfl

theorem space_decodeMov (d s : Reg) : (decodeMov d s).space = .opcode := by
  cases d <;> cases s <;> rfl

theorem space_decodeLod (d s : Reg) : (decodeLod d s).space = .opcode := by
  cases d <;> cases s <;> rfl

theorem space_decodeSto (d s : Reg) : (decodeSto d s).space = .opcode := by
  cases d <;> cases s <;> rfl

theorem space_decodeAlu (m : AluMode) (r : Reg) : (decodeAlu m r).space = .opcode := by
  cases m <;> cases r <;> rfl

/-- The decoder's opcode is encoded as the byte it was read from. -/
@[simp] theorem encodeByte_decodeOpcode (b : Byte) : encodeByte (decodeOpcode b) = b := by
  unfold decodeOpcode
  cases h : opGroup b
  case mov => rw [encodeByte_decodeMov, ← h, opcodeByte_fields]
  case lod => rw [encodeByte_decodeLod, ← h, opcodeByte_fields]
  case sto => rw [encodeByte_decodeSto, ← h, opcodeByte_fields]
  case alu => rw [encodeByte_decodeAlu, aluByte_fields h]

@[simp] theorem space_decodeOpcode (b : Byte) : (decodeOpcode b).space = .opcode := by
  unfold decodeOpcode
  cases opGroup b
  case mov => exact space_decodeMov _ _
  case lod => exact space_decodeLod _ _
  case sto => exact space_decodeSto _ _
  case alu => exact space_decodeAlu _ _

/-- An opcode has no operand that could be ill formed. -/
theorem wf_of_space_opcode {i : Instr} (h : i.space = .opcode) : i.wf = true := by
  cases i <;> first | rfl | cases h

/-- Row by row, an opcode is what its byte decodes to. -/
theorem decodeOpcode_encodeByte {i : Instr} (h : i.space = .opcode) : decodeOpcode (encodeByte i) = i := by
  cases i <;> first | rfl | cases h

/-! ### Command bytes (rule R97) -/

/-- A command byte is its class bit plus the argument below it. -/
theorem toNat_commandByte {base argBits : Byte} {k : Nat} (hbase : base.toNat = 2 ^ k)
    (hargs : argBits.toNat = 2 ^ k - 1) (arg : Byte) :
    (commandByte base argBits arg).toNat = 2 ^ k + arg.toNat % 2 ^ k := by
  simp only [commandByte, BitVec.toNat_or, BitVec.toNat_and, hbase, hargs, Nat.and_two_pow_sub_one_eq_mod]
  simpa using (Nat.two_pow_add_eq_or_of_lt (Nat.mod_lt arg.toNat (by positivity)) 1).symm

/-- The byte of a well-formed argument has the class bit as its highest, and the argument is read back below it. -/
theorem commandByte_spec {base argBits arg : Byte} {k : Nat} (hbase : base.toNat = 2 ^ k)
    (hargs : argBits.toNat = 2 ^ k - 1) (harg : arg.toNat < 2 ^ k) :
    2 ^ k ≤ (commandByte base argBits arg).toNat ∧ (commandByte base argBits arg).toNat < 2 ^ (k + 1) ∧
      commandByte base argBits arg &&& argBits = arg := by
  have hbyte := toNat_commandByte hbase hargs arg
  rw [Nat.mod_eq_of_lt harg] at hbyte
  refine ⟨by omega, by rw [Nat.pow_succ]; omega, BitVec.eq_of_toNat_eq ?_⟩
  rw [BitVec.toNat_and, hbyte, hargs, Nat.and_two_pow_sub_one_eq_mod, Nat.add_mod_left, Nat.mod_eq_of_lt harg]

/-- A well-formed command class is what its byte decodes to: the byte lies in the class's range. -/
theorem decodeCommand_encodeByte {i : Instr} (h : i.space = .lcdCommand) (hwf : i.wf = true) :
    decodeCommand (encodeByte i) = i := by
  rw [decodeCommand_eq_by_range]
  cases i
  case lcdSetDramAddr arg =>
    obtain ⟨hle, hlt, harg⟩ := commandByte_spec (base := 0x80#8) (argBits := 0x7F#8) (k := 7) rfl rfl
      (of_decide_eq_true hwf)
    simp (disch := omega) only [encodeByte, if_pos, harg]
  case lcdSetCgramAddr arg =>
    obtain ⟨hle, hlt, harg⟩ := commandByte_spec (base := 0x40#8) (argBits := 0x3F#8) (k := 6) rfl rfl
      (of_decide_eq_true hwf)
    simp (disch := omega) only [encodeByte, if_pos, if_neg, harg]
  case lcdFunctionSet arg =>
    obtain ⟨hle, hlt, harg⟩ := commandByte_spec (base := 0x20#8) (argBits := 0x1F#8) (k := 5) rfl rfl
      (of_decide_eq_true hwf)
    simp (disch := omega) only [encodeByte, if_pos, if_neg, harg]
  case lcdShift arg =>
    obtain ⟨hle, hlt, harg⟩ := commandByte_spec (base := 0x10#8) (argBits := 0x0F#8) (k := 4) rfl rfl
      (of_decide_eq_true hwf)
    simp (disch := omega) only [encodeByte, if_pos, if_neg, harg]
  case lcdDisplay arg =>
    obtain ⟨hle, hlt, harg⟩ := commandByte_spec (base := 0x08#8) (argBits := 0x07#8) (k := 3) rfl rfl
      (of_decide_eq_true hwf)
    simp (disch := omega) only [encodeByte, if_pos, if_neg, harg]
  case lcdEntryMode arg =>
    obtain ⟨hle, hlt, harg⟩ := commandByte_spec (base := 0x04#8) (argBits := 0x03#8) (k := 2) rfl rfl
      (of_decide_eq_true hwf)
    simp (disch := omega) only [encodeByte, if_pos, if_neg, harg]
  case lcdHome arg =>
    obtain ⟨hle, hlt, harg⟩ := commandByte_spec (base := 0x02#8) (argBits := 0x01#8) (k := 1) rfl rfl
      (of_decide_eq_true hwf)
    simp (disch := omega) only [encodeByte, if_pos, if_neg, harg]
  case lcdClear | lcdNoCommand => rfl
  all_goals cases h

/-- A command byte's class has the byte again: its class bit and its argument bits. -/
@[simp] theorem encodeByte_decodeCommand (b : Byte) : encodeByte (decodeCommand b) = b := by
  rw [decodeCommand_eq_by_range]
  split_ifs with h7 h6 h5 h4 h3 h2 h1 h0
  · exact commandByte_argBits (k := 7) rfl rfl h7 b.isLt
  · exact commandByte_argBits (k := 6) rfl rfl h6 (Nat.lt_of_not_le h7)
  · exact commandByte_argBits (k := 5) rfl rfl h5 (Nat.lt_of_not_le h6)
  · exact commandByte_argBits (k := 4) rfl rfl h4 (Nat.lt_of_not_le h5)
  · exact commandByte_argBits (k := 3) rfl rfl h3 (Nat.lt_of_not_le h4)
  · exact commandByte_argBits (k := 2) rfl rfl h2 (Nat.lt_of_not_le h3)
  · exact commandByte_argBits (k := 1) rfl rfl h1 (Nat.lt_of_not_le h2)
  · exact (BitVec.eq_of_toNat_eq h0).symm
  · exact (BitVec.eq_of_toNat_eq (show b.toNat = 0 by omega)).symm

@[simp] theorem space_decodeCommand (b : Byte) : (decodeCommand b).space = .lcdCommand := by
  unfold decodeCommand
  split_ifs <;> rfl

/-- Masking with the argument bits leaves an argument below the class bit. -/
theorem toNat_and_argBits_lt {argBits : Byte} {k : Nat} (hargs : argBits.toNat = 2 ^ k - 1) (b : Byte) :
    (b &&& argBits).toNat < 2 ^ k := by
  rw [BitVec.toNat_and, hargs, Nat.and_two_pow_sub_one_eq_mod]
  exact Nat.mod_lt _ (by positivity)

theorem wf_decodeCommand (b : Byte) : (decodeCommand b).wf = true := by
  unfold decodeCommand
  split_ifs
  · exact decide_eq_true (toNat_and_argBits_lt (k := 7) rfl b)
  · exact decide_eq_true (toNat_and_argBits_lt (k := 6) rfl b)
  · exact decide_eq_true (toNat_and_argBits_lt (k := 5) rfl b)
  · exact decide_eq_true (toNat_and_argBits_lt (k := 4) rfl b)
  · exact decide_eq_true (toNat_and_argBits_lt (k := 3) rfl b)
  · exact decide_eq_true (toNat_and_argBits_lt (k := 2) rfl b)
  · exact decide_eq_true (toNat_and_argBits_lt (k := 1) rfl b)
  · rfl
  · rfl

/-! ### The round trips -/

theorem decode_opcode_cons (b : Byte) (rest : List Byte) :
    decode .opcode (b :: rest) = .ok (decodeOpcode b, rest) := rfl

theorem decode_lcdCommand_cons (b : Byte) (rest : List Byte) :
    decode .lcdCommand (b :: rest) = .ok (decodeCommand b, rest) := rfl

/-- Settles O36: in each space the decoder gives back the instruction of the byte. -/
theorem decodeEncode : Obligations.DecodeEncode := by
  unfold Obligations.DecodeEncode
  intro i rest hwf
  rw [encode, List.singleton_append]
  cases hspace : i.space
  case opcode => rw [decode_opcode_cons, decodeOpcode_encodeByte hspace]
  case lcdCommand => rw [decode_lcdCommand_cons, decodeCommand_encodeByte hspace hwf]

/-- Settles O37: in each space the byte of the decoded instruction is the byte that was read. -/
theorem encodeDecode : Obligations.EncodeDecode := by
  unfold Obligations.EncodeDecode
  refine ⟨fun space b rest => ?_, fun _ => rfl⟩
  cases space
  case opcode =>
    exact ⟨decodeOpcode b, decode_opcode_cons b rest, congrArg (fun c => [c]) (encodeByte_decodeOpcode b),
      wf_of_space_opcode (space_decodeOpcode b), space_decodeOpcode b⟩
  case lcdCommand =>
    exact ⟨decodeCommand b, decode_lcdCommand_cons b rest, congrArg (fun c => [c]) (encodeByte_decodeCommand b),
      wf_decodeCommand b, space_decodeCommand b⟩

/-- Settles O38: each word of the statement is the byte of its instruction. -/
theorem writtenWordsDecode : Obligations.WrittenWordsDecode := by
  unfold Obligations.WrittenWordsDecode
  exact ⟨decodeEncode .moviRa [] rfl, decodeEncode .jnc [] rfl, decodeEncode .clra [] rfl, decodeEncode .popRb [] rfl,
    decodeEncode .lcdImm [] rfl, decodeEncode .pushRa [] rfl, decodeEncode .stoPgmRcRb [] rfl,
    decodeEncode .incRb [] rfl, decodeEncode .cmpRbRd [] rfl, decodeEncode (.lcdSetDramAddr 0x11#8) [] rfl,
    decodeEncode (.lcdDisplay 0x04#8) [] rfl, decodeEncode .lcdClear [] rfl⟩

end Sys2Proof
end

section
/-! PROOFS. The statements of 45_lcd.md, continued: where the cursor goes (rule R233), that every operation keeps the
device's invariant (rules R32, R224, R240), what `update_pixels` leaves alone (rule R243), and a line read back
(rules R234, R236). -/

namespace Sys2Proof.Machine

/-! ### The cursor's advance (rule R233) -/

theorem Lcd.lineWidth_mul_le_size {l : Lcd} {rows : Nat} (h : rows ≤ l.height) : rows * l.lineWidth ≤ l.size := by
  rw [Lcd.size, Nat.mul_comm l.lineWidth]
  exact Nat.mul_le_mul_right _ h

/-- A device in bounds has a line of at least one visible cell and its gap byte. -/
theorem Lcd.two_le_lineWidth {l : Lcd} (h : geometryOk l.width l.height = true) : 2 ≤ l.lineWidth := by
  obtain ⟨hw, -, -⟩ := (geometryOk_iff _ _).1 h
  unfold Lcd.lineWidth
  omega

theorem Lcd.lineWidth_le_size {l : Lcd} (h : geometryOk l.width l.height = true) : l.lineWidth ≤ l.size := by
  obtain ⟨-, hh, -⟩ := (geometryOk_iff _ _).1 h
  simpa using Lcd.lineWidth_mul_le_size hh

theorem Lcd.isGap_eq_false_iff (l : Lcd) (o : Nat) : l.isGap o = false ↔ (o + 1) % l.lineWidth ≠ 0 := by
  simp [Lcd.isGap]

theorem Lcd.advance_lt_size {l : Lcd} (h : geometryOk l.width l.height = true) (c : Nat) : l.advance c < l.size := by
  have h2 := Lcd.two_le_lineWidth h
  have hle := Lcd.lineWidth_le_size h
  simp only [Lcd.advance]
  split_ifs <;> omega

/-- The byte after a gap byte is the first one of its line, and so is offset 0: no gap byte, since a line has two bytes. -/
theorem Lcd.isGap_advance {l : Lcd} (h : geometryOk l.width l.height = true) (c : Nat) :
    l.isGap (l.advance c) = false := by
  have h2 := Lcd.two_le_lineWidth h
  rw [Lcd.isGap_eq_false_iff]
  have hstart : ∀ n, n % l.lineWidth = 0 → (n + 1) % l.lineWidth ≠ 0 := fun n hn => by
    rw [Nat.add_mod, hn, Nat.zero_add, Nat.mod_mod, Nat.mod_eq_of_lt (by omega)]
    omega
  simp only [Lcd.advance]
  split_ifs with hgap
  · exact hstart 0 (Nat.zero_mod _)
  · exact hstart _ hgap
  · exact hstart 0 (Nat.zero_mod _)
  · exact hgap

/-- From a visible cell the next offset is a gap byte exactly at the end of the line. -/
theorem Lcd.advance_visible {l : Lcd} {row col : Nat} (hr : row < l.height) (hc : col < l.width) :
    l.advance (row * l.lineWidth + col) =
      if col + 1 < l.width then row * l.lineWidth + (col + 1)
      else if row + 1 < l.height then (row + 1) * l.lineWidth else 0 := by
  have hmod : (row * l.lineWidth + col + 1 + 1) % l.lineWidth = 0 ↔ ¬col + 1 < l.width := by
    rw [Nat.add_assoc, Nat.add_assoc, Nat.mul_add_mod', Lcd.lineWidth]
    by_cases hend : col + 1 < l.width
    · rw [Nat.mod_eq_of_lt (by omega)]
      omega
    · rw [show col + (1 + 1) = l.width + 1 by omega, Nat.mod_self]
      omega
  have hnext : (row + 1) * l.lineWidth = row * l.lineWidth + l.lineWidth := Nat.succ_mul _ _
  have hline : (row + 1) * l.lineWidth ≤ l.size := Lcd.lineWidth_mul_le_size hr
  have hwidth : l.lineWidth = l.width + 1 := rfl
  simp only [Lcd.advance, hmod]
  by_cases hend : col + 1 < l.width
  · rw [if_neg (not_not_intro hend), if_neg (by omega), if_pos hend, Nat.add_assoc]
  · have hstart : row * l.lineWidth + col + 1 + 1 = (row + 1) * l.lineWidth := by omega
    rw [if_pos hend, if_neg hend, hstart]
    by_cases hlast : row + 1 < l.height
    · have : (row + 2) * l.lineWidth ≤ l.size := Lcd.lineWidth_mul_le_size hlast
      rw [if_pos hlast, if_neg]
      rw [Nat.succ_mul] at this
      omega
    · have hall : l.size = (row + 1) * l.lineWidth := by
        rw [Lcd.size, Nat.mul_comm, show l.height = row + 1 by omega]
      rw [if_neg hlast, if_pos hall.le]

/-- Settles O42: the order of the visits is the advance from a visible cell. -/
theorem advanceVisitsVisibleCells : Obligations.AdvanceVisitsVisibleCells := by
  unfold Obligations.AdvanceVisitsVisibleCells
  exact fun l h => ⟨fun c => ⟨Lcd.advance_lt_size h c, Lcd.isGap_advance h c⟩, fun row col => Lcd.advance_visible⟩

/-! ### The invariant, operation by operation (rules R32, R224, R240) -/

/-- A device just constructed in bounds meets the invariant. -/
theorem Lcd.inv_make {width height : Nat} (h : geometryOk width height = true) : (Lcd.make width height).inv = true := by
  refine (Lcd.inv_iff _).2 ⟨h, ?_, Memory.wf_nil _, ?_, fun column hc => ?_, fun x hx y hy _ => pixelAt_make hx hy⟩
  · exact Nat.lt_of_lt_of_le (Nat.lt_of_lt_of_le Nat.zero_lt_two (Lcd.two_le_lineWidth h)) (Lcd.lineWidth_le_size h)
  · exact List.length_replicate
  · rw [List.eq_of_mem_replicate hc]
    exact List.length_replicate

/-- An operation that leaves the sizes and the pixels alone keeps the invariant when it leaves the cursor inside DDRAM and
DDRAM canonical. -/
theorem Lcd.inv_update {l : Lcd} (h : l.inv = true) {cursor : Nat} {ddram : Memory} (hcursor : cursor < l.size)
    (hddram : Memory.wf l.size ddram = true) (entryMode displayFlags : Byte) :
    ({ l with cursor := cursor, ddram := ddram, entryMode := entryMode, displayFlags := displayFlags } : Lcd).inv
      = true := by
  obtain ⟨hgeom, -, -, hpix⟩ := l.inv_iff.1 h
  exact (Lcd.inv_iff _).2 ⟨hgeom, hcursor, hddram, hpix⟩

theorem Lcd.inv_writeByte {l : Lcd} (h : l.inv = true) (b : Byte) : (l.writeByte b).inv = true := by
  obtain ⟨hgeom, hcursor, hddram, -⟩ := l.inv_iff.1 h
  refine Lcd.inv_update h ?_ (Memory.wf_write hddram hcursor) _ _
  split
  · exact Lcd.advance_lt_size hgeom _
  · exact hcursor

theorem Lcd.inv_writeString {l : Lcd} (h : l.inv = true) (bytes : List Byte) : (l.writeString bytes).inv = true :=
  List.foldlRecOn _ Lcd.writeByte (motive := fun d => d.inv = true) h fun _ hd b _ => Lcd.inv_writeByte hd b

theorem Lcd.inv_sendCommand {l : Lcd} (h : l.inv = true) (b : Byte) : (l.sendCommand b).inv = true := by
  obtain ⟨-, hcursor, hddram, -⟩ := l.inv_iff.1 h
  have hhome : 0 < l.size := Nat.zero_lt_of_lt hcursor
  unfold Lcd.sendCommand
  split_ifs
  · exact Lcd.inv_update h (Nat.lt_of_le_of_lt (Nat.min_le_right _ _) (by omega)) hddram _ _
  · exact h
  · exact h
  · exact h
  · exact Lcd.inv_update h hcursor hddram _ b
  · exact Lcd.inv_update h hcursor hddram b _
  · exact Lcd.inv_update h hhome hddram _ _
  · exact Lcd.inv_update h hhome (Memory.wf_filter _ hddram) _ _
  · exact h

/-! ### What the rasterizer leaves alone (rules R240, R243) -/

/-- A pixel write keeps the buffer's size, column by column. -/
theorem map_length_setPixel (pix : List (List Pixel)) (x y : Nat) (v : Pixel) :
    (setPixel pix x y v).map List.length = pix.map List.length := by
  apply List.ext_getElem?
  intro k
  simp only [setPixel, List.getElem?_map, List.getElem?_modify]
  cases pix[k]? with
  | none => rfl
  | some column => by_cases hk : x = k <;> simp [hk]

theorem Lcd.map_length_updatePixels (l : Lcd) : l.updatePixels.pix.map List.length = l.pix.map List.length :=
  List.foldlRecOn l.cells l.drawPixel (motive := fun pix => pix.map List.length = l.pix.map List.length) rfl
    fun _ hpix (_, _, _, _) _ => (map_length_setPixel _ _ _ _).trans hpix

/-- Every turn of the loop targets a pixel of a glyph cell, so that no other changes. -/
theorem Lcd.pixelAt_updatePixels_of_not_inGlyph (l : Lcd) {x y : Nat} (hgap : inGlyph x y = false) :
    pixelAt l.updatePixels.pix x y = pixelAt l.pix x y := by
  refine List.foldlRecOn l.cells l.drawPixel (motive := fun pix => pixelAt pix x y = pixelAt l.pix x y) rfl ?_
  rintro pix hpix ⟨row, col, i, j⟩ hmem
  obtain ⟨-, -, hi, hj⟩ := (l.mem_cells row col i j).1 hmem
  rw [l.pixelAt_drawPixel, if_neg, hpix]
  rintro htarget
  obtain ⟨rfl, rfl⟩ := Prod.mk.inj htarget
  have : inGlyph (col * 6 + i) (row * 9 + j) = true := by
    simp only [inGlyph, Bool.and_eq_true, decide_eq_true_eq]
    omega
  rw [this] at hgap
  cases hgap

theorem Lcd.inv_updatePixels {l : Lcd} (h : l.inv = true) : l.updatePixels.inv = true := by
  obtain ⟨hgeom, hcursor, hddram, hlen, hcol, hgaps⟩ := l.inv_iff.1 h
  have hmap := l.map_length_updatePixels
  refine (Lcd.inv_iff _).2 ⟨hgeom, hcursor, hddram, ?_, fun column hc => ?_, fun x hx y hy hgap => ?_⟩
  · have hlength := congrArg List.length hmap
    rw [List.length_map, List.length_map] at hlength
    exact hlength.trans hlen
  · have : column.length ∈ l.pix.map List.length := hmap ▸ List.mem_map_of_mem hc
    obtain ⟨column', hc', hsame⟩ := List.mem_map.1 this
    exact hsame.symm.trans (hcol _ hc')
  · exact (l.pixelAt_updatePixels_of_not_inGlyph hgap).trans (hgaps x hx y hy hgap)

/-- Settles O43: construction gives the invariant, and each operation keeps it. -/
theorem lcdInvariantKept : Obligations.LcdInvariantKept := by
  unfold Obligations.LcdInvariantKept
  refine ⟨fun width height l hnew => ?_, fun l h => ⟨fun b => ⟨Lcd.inv_writeByte h b, Lcd.inv_sendCommand h b⟩,
    Lcd.inv_writeString h, Lcd.inv_updatePixels h⟩⟩
  obtain ⟨hg, rfl⟩ : geometryOk width height = true ∧ Lcd.make width height = l := by
    simpa [Lcd.new?] using hnew
  exact Lcd.inv_make hg

/-- Settles O44: a glyph's pixel is drawn by its turn of the loop, and every turn draws in a glyph cell. -/
theorem updatePixelsDrawsGlyphs : Obligations.UpdatePixelsDrawsGlyphs := by
  unfold Obligations.UpdatePixelsDrawsGlyphs
  exact ⟨fun l h => ⟨fun row col i j hr hc hi hj => Lcd.pixelAt_updatePixels h hr hc hi hj,
    fun x y => l.pixelAt_updatePixels_of_not_inGlyph, rfl⟩, fun i => rfl⟩

/-! ### A line written and read back (rules R231 to R236) -/

/-- Bytes written from the cursor on under INCREMENT, no more than the line holds: each stands at its own offset, and no
other byte changes. -/
theorem Lcd.read_foldl_writeByte {l : Lcd} (hrow : 0 < l.height) (hinc : l.increment = true) (bytes : List Byte)
    (hlen : l.cursor + bytes.length ≤ l.width) (o : Nat) :
    (bytes.foldl Lcd.writeByte l).ddram.read o =
      if l.cursor ≤ o then (bytes[o - l.cursor]?).getD (l.ddram.read o) else l.ddram.read o := by
  induction bytes generalizing l with
  | nil => simp
  | cons b rest ih =>
    rw [List.length_cons] at hlen
    have hb : (l.writeByte b).ddram.read o = if o = l.cursor then b else l.ddram.read o := by
      by_cases ho : o = l.cursor
      · rw [ho, if_pos rfl]
        exact Memory.read_write_same _ _ _
      · rw [if_neg ho]
        exact Memory.read_write_other _ _ _ _ ho
    cases rest with
    | nil =>
      rw [List.foldl_cons, List.foldl_nil, hb]
      rcases Nat.lt_trichotomy o l.cursor with ho | ho | ho
      · rw [if_neg (by omega), if_neg (by omega)]
      · simp [ho]
      · rw [if_neg (by omega), if_pos (by omega), List.getElem?_eq_none (by simp; omega), Option.getD_none]
    | cons b' rest =>
      rw [List.length_cons] at hlen
      have hcursor : (l.writeByte b).cursor = l.cursor + 1 := by
        have hvisible := Lcd.advance_visible (l := l) (row := 0) (col := l.cursor) hrow (by omega)
        rw [if_pos (by omega), Nat.zero_mul, Nat.zero_add, Nat.zero_add] at hvisible
        simp only [Lcd.writeByte, hinc, if_true, hvisible]
      have hfits : (l.writeByte b).cursor + (b' :: rest).length ≤ (l.writeByte b).width := by
        rw [hcursor, List.length_cons]
        show _ ≤ l.width
        omega
      rw [List.foldl_cons, ih (l := l.writeByte b) hrow hinc hfits, hcursor, hb]
      rcases Nat.lt_trichotomy o l.cursor with ho | ho | ho
      · rw [if_neg (by omega), if_neg (by omega), if_neg (by omega)]
      · simp [ho]
      · rw [if_pos (by omega), if_neg (by omega), if_pos (by omega),
          show o - l.cursor = o - (l.cursor + 1) + 1 by omega, List.getElem?_cons_succ]

theorem bne_zero_of_not_mem {bytes : List Byte} (h : 0#8 ∉ bytes) : ∀ b ∈ bytes, (b != 0#8) = true := by
  rintro b hb
  rw [bne_iff_ne]
  rintro rfl
  exact h hb

/-- Bytes that are not NUL are written whole. -/
theorem Lcd.writeString_of_not_mem (l : Lcd) {bytes : List Byte} (h : 0#8 ∉ bytes) :
    l.writeString bytes = bytes.foldl Lcd.writeByte l := by
  rw [Lcd.writeString, List.takeWhile_eq_self_iff.2 (bne_zero_of_not_mem h)]

/-- Writing bytes changes neither size. -/
theorem Lcd.sizes_foldl_writeByte (l : Lcd) (bytes : List Byte) :
    (bytes.foldl Lcd.writeByte l).width = l.width ∧ (bytes.foldl Lcd.writeByte l).height = l.height := by
  refine List.foldlRecOn bytes Lcd.writeByte (motive := fun d => d.width = l.width ∧ d.height = l.height) ⟨rfl, rfl⟩ ?_
  exact fun _ hd _ _ => hd

/-- A line whose DDRAM bytes are some bytes without NUL and zeros after them reads as those bytes. -/
theorem Lcd.readLine_eq {l : Lcd} {row : Nat} {bytes : List Byte} (hrow : row < l.height) (h0 : 0#8 ∉ bytes)
    (hlen : row * l.lineWidth + bytes.length ≤ l.size)
    (hread : ∀ k, row * l.lineWidth + k < l.size → l.ddram.read (row * l.lineWidth + k) = (bytes[k]?).getD 0#8) :
    l.readLine row = bytes := by
  have hline : (List.range' (row * l.lineWidth) (l.size - row * l.lineWidth)).map l.ddram.read =
      bytes ++ List.replicate (l.size - row * l.lineWidth - bytes.length) 0#8 := by
    apply List.ext_getElem
    · simp only [List.length_map, List.length_range', List.length_append, List.length_replicate]
      omega
    · intro k hk _
      simp only [List.length_map, List.length_range'] at hk
      rw [List.getElem_map, List.getElem_range', Nat.one_mul, hread k (by omega), List.getElem_append]
      split
      · next hlt => rw [List.getElem?_eq_getElem hlt, Option.getD_some]
      · next hge => rw [List.getElem?_eq_none (by omega), Option.getD_none, List.getElem_replicate]
  rw [Lcd.readLine, if_pos hrow, hline,
    List.takeWhile_append_of_pos (bne_zero_of_not_mem h0), List.takeWhile_replicate]
  simp

/-- Settles O46: after CLEAR the bytes stand in the first line, and every other byte of DDRAM is 0. -/
theorem writeThenReadLine : Obligations.WriteThenReadLine := by
  unfold Obligations.WriteThenReadLine
  intro l bytes hinv hinc h0 hlen
  obtain ⟨hgeom, -⟩ := l.inv_iff.1 hinv
  obtain ⟨-, hheight, -⟩ := (geometryOk_iff _ _).1 hgeom
  rw [Lcd.writeString_of_not_mem _ h0]
  have hread : ∀ o < l.size, (bytes.foldl Lcd.writeByte l.clear).ddram.read o = (bytes[o]?).getD 0#8 := fun o ho => by
    have hclear : l.clear.ddram.read o = 0#8 := l.read_clear_ddram ho
    simpa [hclear, show l.clear.cursor = 0 from rfl] using
      Lcd.read_foldl_writeByte (l := l.clear) hheight hinc bytes (by simpa [Lcd.clear] using hlen) o
  obtain ⟨hw, hh⟩ := Lcd.sizes_foldl_writeByte l.clear bytes
  generalize bytes.foldl Lcd.writeByte l.clear = written at hread hw hh
  have hline : written.lineWidth = l.lineWidth := congrArg (· + 1) hw
  have hsize : written.size = l.size := congrArg₂ (· * ·) hline hh
  have hwidth : l.lineWidth = l.width + 1 := rfl
  have hle := Lcd.lineWidth_le_size hgeom
  refine ⟨Lcd.readLine_eq (hh.symm ▸ hheight) h0 ?_ fun k hk => ?_, fun row hrow => ?_⟩
  · omega
  · simpa using hread k (by omega)
  · by_cases hlt : row < written.height
    · have hone : written.lineWidth ≤ row * written.lineWidth := Nat.le_mul_of_pos_left _ hrow
      have hin := Lcd.lineWidth_mul_le_size hlt.le
      refine Lcd.readLine_eq hlt (by simp) (by simpa using hin) fun k hk => ?_
      rw [hread _ (by omega), List.getElem?_eq_none (by omega)]
      rfl
    · exact if_neg hlt

end Sys2Proof.Machine
end

section
/-! PROOFS. The invariant of 10_state.md and 20_memory.md: every microstep keeps it, so does every run of microsteps, and a
move of the host is an operation of the LCD or of a memory (rules R32, R240, R266). -/

namespace Sys2Proof.Machine

/-! ### The command classes as instructions -/

/-- A command class, whatever its argument, is `send_command` of its byte. -/
theorem exec_of_lcdCommand {i : Instr} (h : i.space = .lcdCommand) (s : State) :
    exec i s = .next (s.setLcd (s.lcd.sendCommand (encodeByte i))) := by
  cases i
  case lcdSetDramAddr arg =>
    have hbyte := toNat_commandByte (base := 0x80#8) (argBits := 0x7F#8) (k := 7) rfl rfl arg
    rw [encodeByte, Lcd.sendCommand_of_setDramAddr _ (by omega), exec_lcdSetDramAddr]
  case lcdSetCgramAddr arg =>
    have hbyte := toNat_commandByte (base := 0x40#8) (argBits := 0x3F#8) (k := 6) rfl rfl arg
    rw [encodeByte, Lcd.sendCommand_of_noAction _ (by omega)]
    rfl
  case lcdFunctionSet arg =>
    have hbyte := toNat_commandByte (base := 0x20#8) (argBits := 0x1F#8) (k := 5) rfl rfl arg
    rw [encodeByte, Lcd.sendCommand_of_noAction _ (by omega)]
    rfl
  case lcdShift arg =>
    have hbyte := toNat_commandByte (base := 0x10#8) (argBits := 0x0F#8) (k := 4) rfl rfl arg
    rw [encodeByte, Lcd.sendCommand_of_noAction _ (by omega)]
    rfl
  case lcdDisplay arg =>
    have hbyte := toNat_commandByte (base := 0x08#8) (argBits := 0x07#8) (k := 3) rfl rfl arg
    rw [encodeByte, Lcd.sendCommand_of_display _ (by omega) (by omega), exec_lcdDisplay]
  case lcdEntryMode arg =>
    have hbyte := toNat_commandByte (base := 0x04#8) (argBits := 0x03#8) (k := 2) rfl rfl arg
    rw [encodeByte, Lcd.sendCommand_of_entryMode _ (by omega) (by omega), exec_lcdEntryMode]
  case lcdHome arg =>
    have hbyte := toNat_commandByte (base := 0x02#8) (argBits := 0x01#8) (k := 1) rfl rfl arg
    rw [encodeByte, Lcd.sendCommand_of_home _ (by omega) (by omega)]
    rfl
  case lcdClear | lcdNoCommand => rfl
  all_goals cases h

/-! ### What every microstep keeps -/

theorem space_eq_opcode_of_form {i : Instr} {f : Form} (h : i.form = some f) : i.space = .opcode := by
  rw [Instr.space, h]

/-- An instruction is an opcode of some form or a command class. -/
theorem form_or_lcdCommand (i : Instr) : (∃ f, i.form = some f) ∨ i.space = .lcdCommand := by
  cases h : i.form with
  | some f => exact .inl ⟨f, rfl⟩
  | none => exact .inr ((form_eq_none_iff i).1 h)

/-- What every microstep keeps, every opcode keeps. -/
theorem exec_keeps {p : State → Prop} (hp : ∀ S s t, p s → commit S s = .next t → p t) {i : Instr} {f : Form}
    (hform : i.form = some f) {s t : State} (hs : p s) (h : exec i s = .next t) : p t := by
  cases ho : f.isOpen with
  | false =>
    rw [exec_of_form s.romSeqs i f s hform ho] at h
    exact runFrom_keeps hp _ _ _ s t hs h
  | true =>
    rw [exec_of_open i f s hform ho] at h
    exact runRom_keeps hp _ _ _ s t hs h

/-- What every microstep keeps, what is left of a fetch keeps. -/
theorem fetch_keeps {p : State → Prop} (hp : ∀ S s t, p s → commit S s = .next t → p t) {s t : State} (hs : p s)
    (h : fetch s = .next t) : p t := by
  unfold fetch at h
  split at h
  · obtain ⟨u, hu, ht⟩ := (andThen_next_iff _ _ _).1 h
    exact hp _ _ _ (hp _ _ _ hs hu) ht
  · exact hp _ _ _ hs h
  · cases h; exact hs

/-! ### The invariant -/

theorem State.inv_iff (s : State) :
    s.inv = true ↔ Memory.wf 256 s.pmem = true ∧ Memory.wf 256 s.dmem = true ∧ s.lcd.inv = true := by
  simp only [State.inv, Bool.and_eq_true, and_assoc]

theorem State.inv_setLcd {s : State} (h : s.inv = true) {l : Lcd} (hl : l.inv = true) : (s.setLcd l).inv = true := by
  obtain ⟨hpmem, hdmem, -⟩ := s.inv_iff.1 h
  exact (State.inv_iff _).2 ⟨hpmem, hdmem, hl⟩

/-- A store through MAR lies below 256. -/
theorem wf_storeBus {m : Memory} (h : Memory.wf 256 m = true) (ask : Bool) (bus : Option Byte) (mar : Byte) :
    Memory.wf 256 (storeBus ask bus mar m) = true := by
  unfold storeBus
  split
  · split
    · exact Memory.wf_write h mar.isLt
    · exact h
  · exact h

theorem inv_strobeLcd {l : Lcd} (h : l.inv = true) (S : SigSet) (bus : Option Byte) :
    (strobeLcd S bus l).inv = true := by
  unfold strobeLcd
  split
  · split
    · split_ifs
      · exact Lcd.inv_writeByte h _
      · exact Lcd.inv_sendCommand h _
      · exact h
    · exact h
  · exact h

theorem commit_keeps_inv (S : SigSet) (s t : State) (h : s.inv = true) (hc : commit S s = .next t) : t.inv = true := by
  obtain ⟨hpmem, hdmem, hlcd⟩ := s.inv_iff.1 h
  obtain ⟨-, rfl⟩ := (commit_next_iff S s t).1 hc
  exact (State.inv_iff _).2 ⟨wf_storeBus hpmem _ _ _, wf_storeBus hdmem _ _ _, inv_strobeLcd hlcd _ _⟩

theorem exec_keeps_inv {i : Instr} {s t : State} (h : s.inv = true) (he : exec i s = .next t) : t.inv = true := by
  rcases form_or_lcdCommand i with ⟨f, hf⟩ | hspace
  · exact exec_keeps commit_keeps_inv hf h he
  · rw [exec_of_lcdCommand hspace] at he
    cases he
    exact State.inv_setLcd h (Lcd.inv_sendCommand (s.inv_iff.1 h).2.2 _)

theorem inv_hostReset {s : State} (h : s.inv = true) : (hostReset s).inv = true := by
  obtain ⟨hpmem, hdmem, hlcd⟩ := s.inv_iff.1 h
  obtain ⟨hgeom, -⟩ := (Lcd.inv_iff _).1 hlcd
  exact (State.inv_iff _).2 ⟨hpmem, hdmem, Lcd.inv_make hgeom⟩

theorem hostMove_keeps_inv {op : HostOp} {s t : State} (h : s.inv = true) (hm : hostMove op s = .next t) :
    t.inv = true := by
  obtain ⟨hpmem, hdmem, hlcd⟩ := s.inv_iff.1 h
  rcases hostMove_next op s t hm with ⟨-, hsetup⟩ | ⟨-, rfl⟩ | ⟨-, -, rfl⟩ | ⟨-, rfl⟩
  · rcases hsetup with ⟨_, -, rfl⟩ | ⟨bytes, -, rfl⟩ | ⟨bytes, -, rfl⟩ | ⟨_, _, -, hg, rfl⟩ | ⟨b, -, he⟩ | ⟨b, -, rfl⟩ |
      ⟨bytes, -, rfl⟩
    · exact h
    · exact (State.inv_iff _).2 ⟨Memory.wf_load bytes _ hpmem, hdmem, hlcd⟩
    · exact (State.inv_iff _).2 ⟨hpmem, Memory.wf_load bytes _ hdmem, hlcd⟩
    · exact State.inv_setLcd h (Lcd.inv_make hg)
    · exact exec_keeps_inv h he
    · exact State.inv_setLcd h (Lcd.inv_writeByte hlcd b)
    · exact State.inv_setLcd h (Lcd.inv_writeString hlcd bytes)
  · exact State.inv_setLcd h (Lcd.inv_updatePixels hlcd)
  · exact h
  · exact inv_hostReset h

/-- Settles O2: nothing is loaded, and the LCD is the one constructed in its size at reset. -/
theorem resetMeetsInvariant : Obligations.ResetMeetsInvariant := by
  unfold Obligations.ResetMeetsInvariant
  obtain ⟨hpmem, hdmem⟩ := State.reset_memory_wf
  exact (State.inv_iff _).2 ⟨hpmem, hdmem, Lcd.inv_make rfl⟩

/-- Settles O3: a step is a host move, nothing, a fetch and an instruction, or a run of microsteps, and each of them keeps
the invariant. -/
theorem stepKeepsInvariant : Obligations.StepKeepsInvariant := by
  unfold Obligations.StepKeepsInvariant
  intro s t h hstep
  rcases step_next s t hstep with ⟨op, rest, -, hmove⟩ | ⟨-, -, rfl⟩ | ⟨-, -, -, -, u, hfetch, hexec⟩ | ⟨-, -, -, -, hrun⟩
  · exact hostMove_keeps_inv (s := { s with ops := rest }) h hmove
  · exact h
  · exact exec_keeps_inv (fetch_keeps commit_keeps_inv h hfetch) hexec
  · exact runMicro_keeps commit_keeps_inv 8 s t h hrun

end Sys2Proof.Machine
end

section
/-! PROOFS. The statements of 46_datapath_harness.md, continued: what one microstep writes, field by field (rules R264,
R265), its faults (rule R269), and signed overflow (rule R264). -/

namespace Sys2Proof.Machine

/-! ### What a microstep leaves alone (rule R265) -/

section Untouched
variable {S : SigSet} (s : State)

theorem latchBus_of_not_mem {g : Signal} (h : g ∉ S) (bus : Option Byte) (old : Byte) :
    latchBus (S.contains g) bus old = old := by
  simp [latchBus, h]

theorem reg_applySet_of_not_mem {r : Reg} (hr : .r r ∉ S) (hpc : r = .pc → .pcc ∉ S) (hstp : r = .stp → .stpw ∉ S) :
    (applySet S s).reg r = s.reg r := by
  cases r <;> simp_all [State.reg, applySet, latchBus]

theorem mar_applySet_of_not_mem (h : .maw ∉ S) : (applySet S s).mar = s.mar := latchBus_of_not_mem h _ _

theorem ir_applySet_of_not_mem (h : .irw ∉ S) : (applySet S s).ir = s.ir := latchBus_of_not_mem h _ _

theorem acc_applySet_of_not_mem (h : .alw ∉ S) : (applySet S s).acc = s.acc := by
  simp [applySet, aluValue, h]

theorem pmem_applySet (S : SigSet) (s : State) :
    (applySet S s).pmem = storeBus (S.contains .mw && S.contains .pgm) (busValue S s) s.mar s.pmem := rfl

theorem dmem_applySet (S : SigSet) (s : State) :
    (applySet S s).dmem = storeBus (S.contains .mw && !S.contains .pgm) (busValue S s) s.mar s.dmem := rfl

theorem lcd_applySet_of_not_mem (h : .lcd ∉ S) : (applySet S s).lcd = s.lcd := by
  simp [applySet, strobeLcd, h]

theorem halted_applySet (S : SigSet) (s : State) : (applySet S s).halted = (S.contains .hlt || s.halted) := rfl

theorem mt_applySet (S : SigSet) (s : State) : (applySet S s).mt = nextMt s.mt S := rfl

/-- A memory that the set does not store to is as before. -/
theorem memory_applySet_of_no_store {pgm : Bool} (h : .mw ∈ S → S.contains .pgm ≠ pgm) :
    (applySet S s).memory pgm = s.memory pgm := by
  by_cases hmw : Signal.mw ∈ S
  · have hother := h hmw
    cases pgm <;> simp_all [State.memory, pmem_applySet, dmem_applySet, storeBus]
  · cases pgm <;> simp [State.memory, pmem_applySet, dmem_applySet, storeBus, hmw]

end Untouched

/-! ### What a microstep latches from the bus (rule R265) -/

section Latched
variable {S : SigSet} {s : State} {v : Byte}

/-- A sink register of a set without a fault is a real one, and the PC among them is not incremented. -/
theorem reg_applySet_of_mem (hf : faultOf S = none) (hbus : busValue S s = some v) {r : Reg} (hr : .r r ∈ S) :
    (applySet S s).reg r = some v := by
  obtain ⟨-, hsink, -, -, -, hpcc, -⟩ := (faultOf_eq_none_iff S).1 hf
  cases r
  case stpi | imm => exact absurd rfl (List.any_eq_false.1 hsink _ hr)
  all_goals simp_all [State.reg, applySet, latchBus]

theorem stp_applySet_of_mem (hbus : busValue S s = some v) (h : .stpw ∈ S) : (applySet S s).stp = v := by
  simp [applySet, latchBus, h, hbus]

theorem mar_applySet_of_mem (hbus : busValue S s = some v) (h : .maw ∈ S) : (applySet S s).mar = v := by
  simp [applySet, latchBus, h, hbus]

theorem ir_applySet_of_mem (hbus : busValue S s = some v) (h : .irw ∈ S) : (applySet S s).ir = v := by
  simp [applySet, latchBus, h, hbus]

/-- The memory that a set stores to holds the bus byte at the old MAR, and its other bytes as before. -/
theorem memory_applySet_of_mem (hbus : busValue S s = some v) (h : .mw ∈ S) :
    (applySet S s).memory (S.contains .pgm) = (s.memory (S.contains .pgm)).write s.mar.toNat v := by
  cases hp : S.contains Signal.pgm <;> simp_all [State.memory, pmem_applySet, dmem_applySet, storeBus]

theorem exists_aluValue_of_mem (hf : faultOf S = none) (h : .alw ∈ S) (s : State) : ∃ out, aluValue S s = some out := by
  obtain ⟨m, a, out, hm, ha, hout, -⟩ := flags_applySet_of_mem_alw h hf s
  obtain ⟨-, -, -, -, hmode, -⟩ := (faultOf_eq_none_iff S).1 hf
  refine ⟨out, ?_⟩
  rw [aluValue, if_pos (List.contains_iff_mem.2 h), ha, Option.bind_some, aluModeOf_of_mem hm (hmode h).2,
    Option.bind_some, hout]

theorem lcd_applySet_of_lcdData (hbus : busValue S s = some v) (h : .lcd ∈ S) (hd : .lcdData ∈ S) :
    (applySet S s).lcd = s.lcd.writeByte v := by
  simp [applySet, strobeLcd, h, hd, hbus]

/-- A strobe without a fault has one of the two mode signals. -/
theorem lcd_applySet_of_lcdCommand (hf : faultOf S = none) (hbus : busValue S s = some v) (h : .lcd ∈ S)
    (hc : .lcdCommand ∈ S) : (applySet S s).lcd = s.lcd.sendCommand v := by
  obtain ⟨-, -, -, -, -, -, hmode⟩ := (faultOf_eq_none_iff S).1 hf
  have hd : Signal.lcdData ∉ S := by simpa [hc] using hmode h
  simp [applySet, strobeLcd, h, hc, hd, hbus]

end Latched

/-- Settles O56: field by field, what is asked for is latched from the bus and the rest stays. -/
theorem microstepCommit : Obligations.MicrostepCommit := by
  unfold Obligations.MicrostepCommit
  intro S s t hc
  obtain ⟨hf, rfl⟩ := (commit_next_iff S s t).1 hc
  refine ⟨rfl, fun hpcc => ?pcc, fun r => reg_applySet_of_not_mem s, mar_applySet_of_not_mem s,
    ir_applySet_of_not_mem s, fun h => ⟨acc_applySet_of_not_mem s h, flags_applySet_of_not_mem_alw h s⟩,
    fun h => ⟨?pmem, ?dmem⟩, lcd_applySet_of_not_mem s, rfl, rfl, rfl, rfl, fun v hbus => ?bus⟩
  case pcc => exact if_pos (List.contains_iff_mem.2 hpcc)
  case pmem => exact memory_applySet_of_no_store s (pgm := true) fun hmw => absurd hmw h
  case dmem => exact memory_applySet_of_no_store s (pgm := false) fun hmw => absurd hmw h
  case bus =>
    refine ⟨fun r => reg_applySet_of_mem hf hbus, stp_applySet_of_mem hbus, mar_applySet_of_mem hbus,
      ir_applySet_of_mem hbus, fun h => ?alw, fun h => ⟨?same, fun pgm a hother => ?other⟩,
      lcd_applySet_of_lcdData hbus, lcd_applySet_of_lcdCommand hf hbus⟩
    case alw =>
      obtain ⟨out, hout⟩ := exists_aluValue_of_mem hf h s
      exact ⟨out, hout, by simp [applySet, hout], by simp [applySet, hout]⟩
    case same => rw [State.load, memory_applySet_of_mem hbus h, Memory.read_write_same]
    case other =>
      by_cases hpgm : pgm = S.contains .pgm
      · subst hpgm
        have hne : a.toNat ≠ s.mar.toNat := fun heq =>
          hother.elim (fun h => h rfl) fun h => h (BitVec.eq_of_toNat_eq heq)
        rw [State.load, memory_applySet_of_mem hbus h, Memory.read_write_other _ _ _ _ hne, State.load]
      · rw [State.load, memory_applySet_of_no_store s fun _ => Ne.symm hpgm, State.load]

/-! ### The faults of a microstep (rule R269) -/

theorem any_isPseudoDriver_iff (S : SigSet) :
    S.any Signal.isPseudoDriver = true ↔ .w .stpi ∈ S ∨ .w .imm ∈ S := by
  rw [List.any_eq_true]
  constructor
  · rintro ⟨g, hg, hp⟩
    unfold Signal.isPseudoDriver at hp
    split at hp
    · exact .inl hg
    · exact .inr hg
    · cases hp
  · rintro (h | h)
    · exact ⟨_, h, rfl⟩
    · exact ⟨_, h, rfl⟩

theorem any_isPseudoSink_iff (S : SigSet) : S.any Signal.isPseudoSink = true ↔ .r .stpi ∈ S ∨ .r .imm ∈ S := by
  rw [List.any_eq_true]
  constructor
  · rintro ⟨g, hg, hp⟩
    unfold Signal.isPseudoSink at hp
    split at hp
    · exact .inl hg
    · exact .inr hg
    · cases hp
  · rintro (h | h)
    · exact ⟨_, h, rfl⟩
    · exact ⟨_, h, rfl⟩

theorem any_isHarnessMode_iff (S : SigSet) : S.any Signal.isHarnessMode = true ↔
    ∃ m : AluMode, .alu m ∈ S ∧ m ∈ [AluMode.aPlusB, .aMinusB, .bMinusA, .aAndB] := by
  rw [List.any_eq_true]
  constructor
  · rintro ⟨g, hg, hm⟩
    unfold Signal.isHarnessMode at hm
    split at hm
    · exact ⟨_, hg, by decide⟩
    · exact ⟨_, hg, by decide⟩
    · exact ⟨_, hg, by decide⟩
    · exact ⟨_, hg, by decide⟩
    · cases hm
  · rintro ⟨m, hm, hmode⟩
    refine ⟨_, hm, ?_⟩
    simp only [List.mem_cons, List.not_mem_nil, or_false] at hmode
    rcases hmode with rfl | rfl | rfl | rfl <;> rfl

theorem oneMode_iff (S : SigSet) :
    SigSet.oneMode S = true ↔ ∀ m n : AluMode, .alu m ∈ S → .alu n ∈ S → m = n := by
  rw [SigSet.oneMode, SigSet.atMostOne_iff]
  constructor
  · exact fun h m n hm hn => Signal.alu.inj (h _ hm _ hn rfl rfl)
  · intro h a ha b hb hka hkb
    cases a with
    | alu m =>
      cases b with
      | alu n => rw [h m n ha hb]
      | _ => cases hkb
    | _ => cases hka

theorem not_oneDriver_iff (S : SigSet) : SigSet.oneDriver S = false ↔
    ∃ a b : Signal, a ∈ S ∧ b ∈ S ∧ a.isDriver = true ∧ b.isDriver = true ∧ a ≠ b := by
  rw [← Bool.not_eq_true, SigSet.oneDriver, SigSet.atMostOne_iff]
  push Not
  exact ⟨fun ⟨a, ha, b, hb, h⟩ => ⟨a, b, ha, hb, h⟩, fun ⟨a, b, ha, hb, h⟩ => ⟨a, ha, b, hb, h⟩⟩

/-- Settles O59: the tests of `faultOf` are the harness's cases. -/
theorem microstepFaults : Obligations.MicrostepFaults := by
  unfold Obligations.MicrostepFaults
  intro S s
  have hfault : (∃ f, commit S s = .fault f) ↔ ¬faultOf S = none := by
    simp only [commit_fault_iff, Option.ne_none_iff_exists', ← ne_eq]
  rw [hfault, faultOf_eq_none_iff]
  have hsink : S.any Signal.isSink = true ↔ ∃ g ∈ S, Machine.Signal.isSink g = true := List.any_eq_true
  have hnone : ¬S.any Sys2Proof.Signal.isDriver = true ↔ ∀ g ∈ S, g.isDriver = false := by simp
  have hlcd : ¬S.contains .lcdData ≠ S.contains .lcdCommand ↔ (.lcdData ∈ S ↔ .lcdCommand ∈ S) := by
    rw [not_not, Bool.eq_iff_iff, List.contains_iff_mem, List.contains_iff_mem]
  simp only [not_and_or, Classical.not_imp, Bool.not_eq_false, hnone, hlcd, hsink, any_isPseudoDriver_iff,
    any_isPseudoSink_iff, ← not_oneDriver_iff, any_isHarnessMode_iff, oneMode_iff, or_assoc, not_not, Bool.not_eq_true]

/-! ### Signed overflow (rule R264) -/

/-- Settles O58: two addends of one sign whose sum has the other one are those whose sum leaves the signed range. -/
theorem signedOverflow : Obligations.SignedOverflow := by
  unfold Obligations.SignedOverflow
  intro x y cin
  have hc : cin.toNat ≤ 1 := Bool.toNat_le cin
  simp only [addOut, Bool.and_eq_true, beq_iff_eq, bne_iff_ne, BitVec.msb_eq_decide, BitVec.toInt_eq_toNat_cond,
    BitVec.toNat_ofNat, ne_eq, decide_eq_decide]
  omega

end Sys2Proof.Machine
end

section
/-! PROOFS. The statements of 40_fetch_sequencer.md, continued: the shape of every sequence (rules R115, R118), what depends
on the flags (rule R116), and a step as the microsteps that the ROM gives (rules R117, R271). The run of an instruction and
the run of microsteps read the same words at the same microtimes, and end at the same one. -/

namespace Sys2Proof

/-! ### An opcode's form, by its byte (rule R90) -/

theorem form_decodeMov (d s : Reg) : (decodeMov d s).form = some (formOfMov d s) := by
  cases d <;> cases s <;> rfl

theorem form_decodeLod (d s : Reg) : (decodeLod d s).form = some (formOfLod d s) := by
  cases d <;> cases s <;> rfl

theorem form_decodeSto (d s : Reg) : (decodeSto d s).form = some (formOfSto d s) := by
  cases d <;> cases s <;> rfl

theorem form_decodeAlu (m : AluMode) (r : Reg) : (decodeAlu m r).form = some (formOfAlu m r) := by
  cases m <;> cases r <;> rfl

/-- The decoded opcode is of the form that the dispatch selects. -/
@[simp] theorem form_decodeOpcode (b : Byte) : (decodeOpcode b).form = some (formOf b) := by
  unfold decodeOpcode formOf
  cases opGroup b
  case mov => exact form_decodeMov _ _
  case lod => exact form_decodeLod _ _
  case sto => exact form_decodeSto _ _
  case alu => exact form_decodeAlu _ _

/-- An opcode has the byte that an instruction of some kind has, when it decodes to one. -/
theorem exists_instr_of_formOf {op : Byte} {f : Form} (h : formOf op = f) :
    ∃ i : Instr, i.form = some f ∧ encodeByte i = op :=
  ⟨decodeOpcode op, by rw [form_decodeOpcode, h], encodeByte_decodeOpcode op⟩

theorem eq_hlt_of_form {i : Instr} (h : i.form = some .hlt) : i = .hlt := by
  cases i <;> first | rfl | cases h

theorem formOf_eq_hlt_iff (op : Byte) : formOf op = .hlt ↔ op = 0x00#8 := by
  constructor
  · intro h
    obtain ⟨i, hi, rfl⟩ := exists_instr_of_formOf h
    rw [eq_hlt_of_form hi]
    rfl
  · rintro rfl
    rfl

/-- The conditional jumps are the opcodes 0x38 to 0x3F. -/
theorem toNat_of_formOf_condJump {op : Byte} {c : Cond} (h : formOf op = .condJump c) :
    0x38 ≤ op.toNat ∧ op.toNat ≤ 0x3F := by
  obtain ⟨i, hi, rfl⟩ := exists_instr_of_formOf h
  cases i <;> cases hi <;> exact ⟨by decide, by decide⟩

end Sys2Proof

namespace Sys2Proof.Machine

/-! ### The sequences that the spec gives (rules R113, R115, R118) -/

/-- A form whose sequence the spec gives has it whatever the parameters. -/
theorem seqOf_congr_param {form : Form} (ho : form.isOpen = false) (P Q : OpenSeqs) (f : Flags) :
    seqOf P form f = seqOf Q form f := by
  cases form with
  | lccPgm | lccImm | calli | stoiImm => cases ho
  | _ => rfl

/-- Only a conditional jump has a sequence that looks at the flags (rule R116). -/
theorem seqOf_congr_flags {form : Form} (hc : ∀ c, form ≠ .condJump c) (P : OpenSeqs) (f g : Flags) :
    seqOf P form f = seqOf P form g := by
  cases form with
  | condJump c => exact absurd rfl (hc c)
  | _ => rfl

theorem length_seqOf {form : Form} (ho : form.isOpen = false) (P : OpenSeqs) (f : Flags) :
    (seqOf P form f).length = form.steps := by
  cases form with
  | lccPgm | lccImm | calli | stoiImm => cases ho
  | condJump c => rw [seqOf, seqCondJump]; split <;> rfl
  | _ => rfl

/-- Past the two steps of a conditional jump there is none, whatever the flags. -/
theorem getElem?_seqOf_condJump (P : OpenSeqs) (c : Cond) (f : Flags) {k : Nat} (hk : 2 ≤ k) :
    (seqOf P (.condJump c) f)[k]? = none :=
  List.getElem?_eq_none (by rw [length_seqOf rfl]; exact hk)

/-- No step of a conditional jump writes the flags that it looks at. -/
theorem alw_not_mem_seqCondJump (c : Cond) (f : Flags) : ∀ S ∈ seqCondJump c f, .alw ∉ S := by
  rw [seqCondJump]
  split <;> decide

/-- The last step of a sequence ends its run and no earlier one does (rule R115 (b)); of `hlt` too. -/
def endsLast : List SigSet → Bool
  | [] => false
  | [S] => endsRun S
  | S :: T :: rest => !endsRun S && endsLast (T :: rest)

theorem endsLast_seqOf {form : Form} (ho : form.isOpen = false) (P : OpenSeqs) (f : Flags) :
    endsLast (seqOf P form f) = true := by
  cases form with
  | lccPgm | lccImm | calli | stoiImm => cases ho
  | condJump c => rw [seqOf, seqCondJump]; split <;> rfl
  | lod d r => cases r <;> rfl
  | sto d r => cases d <;> rfl
  | _ => rfl

/-- The forms with a store (rules R180 to R185, R188). -/
def Form.storesMemory : Form → Bool
  | .pushi | .call | .push _ | .calli | .stoiImm | .stoi _ | .sto _ _ => true
  | .condJump _ | .clra | .movi _ | .jmpi | .jmz | .tst _ | .mov _ _ | .hlt | .undef | .nop | .peek _ | .lccMem | .lccPgm
  | .lcdPgm | .ret | .pop _ | .lccImm | .lodImm _ | .lcdImm | .clr _ | .lod _ _ | .inc _ | .add _ | .sub _ | .rsb _
  | .cmpRegRb _ | .cmpRbReg _ | .lccReg _ | .lcdReg _ => false

/-- Whether a sequence of the form may hold the signal, for the signals that write IR, Acc, a memory, the LCD or the
halt. -/
def Form.mayAssert (f : Form) : Signal → Bool
  | .irw => false
  | .alw => f.latchesAlu
  | .mw => Form.storesMemory f
  | .lcd => f.strobesLcd
  | .hlt => decide (f = .hlt)
  | _ => true

/-- A sequence that the spec gives holds none of those signals but for its form's; none latches IR. -/
theorem seqWithout_seqOf {form : Form} (ho : form.isOpen = false) {g : Signal} (hg : Form.mayAssert form g = false)
    (P : OpenSeqs) (f : Flags) : seqWithout g (seqOf P form f) = true := by
  cases g with
  | irw | alw | mw | lcd | hlt =>
    cases form with
    | lccPgm | lccImm | calli | stoiImm => cases ho
    | condJump c => rw [seqOf, seqCondJump]; split <;> rfl
    | lod d r => cases r <;> rfl
    | sto d r => cases d <;> first | rfl | cases hg
    | _ => first | rfl | cases hg
  | _ => cases hg

theorem seqWithout_iff {g : Signal} {q : List SigSet} : seqWithout g q = true ↔ ∀ S ∈ q, g ∉ S := by
  simp [seqWithout]

@[simp] theorem countP_isAlu_pgmIfRc_append (r : Reg) (S : SigSet) :
    (pgmIfRc r ++ S).countP Signal.isAlu = S.countP Signal.isAlu := by
  unfold pgmIfRc
  split <;> rfl

/-- Each step of a sequence that the spec gives names at most one ALU mode. -/
theorem countP_isAlu_le_one_of_mem_seqOf {form : Form} (ho : form.isOpen = false) (P : OpenSeqs) (f : Flags) :
    ∀ S ∈ seqOf P form f, S.countP Signal.isAlu ≤ 1 := by
  cases form with
  | lccPgm | lccImm | calli | stoiImm => cases ho
  | condJump c =>
    rw [seqOf, seqCondJump]
    split <;> decide
  | lod d s | sto d s =>
    simp only [seqOf, seqLod, seqSto, List.forall_mem_cons, countP_isAlu_pgmIfRc_append]
    exact ⟨Nat.zero_le 1, Nat.zero_le 1, List.forall_mem_nil _⟩
  | _ => exact List.all_iff_forall_prop.1 rfl

/-- `_TR` is in the last step of a sequence that the spec gives and in no earlier one, but for `hlt`. -/
theorem tr_last_seqOf {form : Form} (ho : form.isOpen = false) (hh : form ≠ .hlt) (P : OpenSeqs) (f : Flags) :
    (seqOf P form f).dropLast.all (fun S => !S.contains .tr) = true ∧
      (seqOf P form f).getLast?.any (fun S => S.contains .tr) = true := by
  cases form with
  | lccPgm | lccImm | calli | stoiImm => cases ho
  | hlt => exact absurd rfl hh
  | condJump c => rw [seqOf, seqCondJump]; split <;> exact ⟨rfl, rfl⟩
  | lod d r => cases r <;> exact ⟨rfl, rfl⟩
  | sto d r => cases d <;> exact ⟨rfl, rfl⟩
  | _ => exact ⟨rfl, rfl⟩

theorem Form.steps_bounds (form : Form) : 1 ≤ form.steps ∧ form.steps ≤ 6 := by
  cases form <;> simp [Form.steps]

/-- A sequence that the spec gives has the shape of rule R115. -/
theorem seqShape_seqOf {form : Form} (ho : form.isOpen = false) (hh : form ≠ .hlt) (P : OpenSeqs) (f : Flags) :
    seqShape form.steps (seqOf P form f) = true := by
  have hdriver : (seqOf P form f).all SigSet.oneDriver = true := List.all_eq_true.2 fun S hS =>
    SigSet.atMostOne_of_countP_le_one (countP_isDriver_le_one_of_mem_seqOf ho P f S hS)
  have hmode : (seqOf P form f).all SigSet.oneMode = true := List.all_eq_true.2 fun S hS =>
    SigSet.atMostOne_of_countP_le_one (countP_isAlu_le_one_of_mem_seqOf ho P f S hS)
  obtain ⟨hdrop, hlast⟩ := tr_last_seqOf ho hh P f
  simp only [seqShape, length_seqOf ho, beq_self_eq_true, Form.steps_bounds, hdrop, hlast, hdriver, hmode, decide_true,
    Bool.and_self]

/-- An OPEN form has its words or lacks them. -/
theorem lacks_or_openSeq (s : State) {f : Form} (ho : f.isOpen = true) :
    s.lacks f = true ∨ ∃ q, s.openSeq f = some q := by
  cases hq : s.openSeq f with
  | none => exact .inl (by simp [State.lacks, ho, hq])
  | some q => exact .inr ⟨q, rfl⟩

/-- Settles O52: a sequence that the spec gives has the shape, and an OPEN one is held to it, as a parameter and in a
machine's ROM. -/
theorem sequenceShape : Obligations.SequenceShape := by
  unfold Obligations.SequenceShape
  have hne : ∀ op : Byte, op ≠ 0x00#8 → formOf op ≠ .hlt := fun op h hf => h ((formOf_eq_hlt_iff op).1 hf)
  refine ⟨fun P hP op f => ⟨fun h => ?hlt, fun h => ?param⟩, fun s op f h hl => ?machine⟩
  case hlt => rw [(formOf_eq_hlt_iff op).2 h]; rfl
  case param =>
    cases ho : (formOf op).isOpen with
    | true => exact seqShape_seqOf_of_wf hP ho f
    | false => exact seqShape_seqOf ho (hne op h) P f
  case machine =>
    cases ho : (formOf op).isOpen with
    | true =>
      obtain ⟨q, hq⟩ := (lacks_or_openSeq s ho).resolve_left (by simp [hl])
      rw [seqOf_romSeqs hq]
      exact (openSeq_spec hq).1
    | false => exact seqShape_seqOf ho (hne op h) _ f

/-- Settles O53: only a conditional jump's sequence looks at the flags, and past its two steps the ROM holds the filler. -/
theorem flagIndependence : Obligations.FlagIndependence := by
  unfold Obligations.FlagIndependence
  intro P op mt f g h
  by_cases h0 : mt = 0#3
  · rw [h0, rom_mt_zero, rom_mt_zero]
  by_cases h1 : mt = 1#3
  · rw [h1, rom_mt_one, rom_mt_one]
  have h2 : 2 ≤ mt.toNat := by bv_omega
  rw [rom_of_two_le P op f h2, rom_of_two_le P op g h2]
  by_cases hjump : ∃ c, formOf op = .condJump c
  · obtain ⟨c, hform⟩ := hjump
    obtain ⟨hlow, hhigh⟩ := toNat_of_formOf_condJump hform
    have hlate : 2 ≤ mt.toNat - 2 := by
      rcases h with h | ⟨h2', h3⟩
      · omega
      · bv_omega
    rw [hform, getElem?_seqOf_condJump P c f hlate, getElem?_seqOf_condJump P c g hlate]
  · rw [seqOf_congr_flags (not_exists.1 hjump) P f g]

/-! ### The run of a sequence that ends with its last step -/

/-- A sequence whose last step is the one that ends it runs to its first fault, or through its steps in order. -/
theorem runFrom_of_endsLast (q pre : List SigSet) (fuel : Nat) (s : State) (he : endsLast q = true)
    (hfuel : q.length ≤ fuel) :
    runFrom (fun _ => pre ++ q) fuel pre.length s =
      (q.findSome? faultOf).elim (.next (afterSteps q s)) Host.Outcome.fault := by
  induction q generalizing pre fuel s with
  | nil => cases he
  | cons S rest ih =>
    obtain ⟨fuel, rfl⟩ : ∃ n, fuel = n + 1 := ⟨fuel - 1, by rw [List.length_cons] at hfuel; omega⟩
    have hword : (pre ++ S :: rest)[pre.length]? = some S := by simp
    rw [List.findSome?_cons]
    cases rest with
    | nil =>
      rw [runFrom_last _ _ _ _ S hword he, commit]
      cases faultOf S <;> rfl
    | cons T rest =>
      obtain ⟨hS, hrest⟩ : endsRun S = false ∧ endsLast (T :: rest) = true := by simpa [endsLast] using he
      have ih := ih (pre ++ [S]) fuel (applySet S s) hrest (Nat.le_of_succ_le_succ hfuel)
      rw [List.append_assoc, List.singleton_append, List.length_append] at ih
      rw [runFrom_step _ _ _ _ S hword hS, commit]
      cases faultOf S with
      | some e => rfl
      | none => exact ih

/-- Where the sequence for the flags at its start holds no `_ALW`, the flags stay and the run is that of one list. -/
theorem runFrom_eq_of_no_alw (q : Flags → List SigSet) (fl : Flags) (h : ∀ S ∈ q fl, .alw ∉ S) :
    ∀ fuel k s, s.flags = fl → runFrom q fuel k s = runFrom (fun _ => q fl) fuel k s
  | 0, _, _, _ => rfl
  | fuel + 1, k, s, hs => by
    have hword : Signal.alw ∉ ((q fl)[k]?).getD filler := by
      cases hk : (q fl)[k]? with
      | none => decide
      | some S => exact h S (List.mem_of_getElem? hk)
    rw [runFrom_succ, runFrom_succ, hs]
    cases hc : commit (((q fl)[k]?).getD filler) s with
    | fault e => rfl
    | refused e => rfl
    | next t =>
      obtain ⟨-, rfl⟩ := (commit_next_iff _ _ _).1 hc
      rw [andThen_next, andThen_next]
      split
      · rfl
      · exact runFrom_eq_of_no_alw q fl h fuel (k + 1) _ ((flags_applySet_of_not_mem_alw hword s).trans hs)

/-- An opcode whose sequence the spec gives runs to its first fault, or through the steps that the flags at its start
select. -/
theorem runSeq_seqOf {form : Form} (ho : form.isOpen = false) (P : OpenSeqs) (s : State) :
    runSeq (seqOf P form) s =
      ((seqOf P form s.flags).findSome? faultOf).elim (.next (afterSteps (seqOf P form s.flags) s))
        Host.Outcome.fault := by
  have hfixed : runSeq (seqOf P form) s = runFrom (fun _ => seqOf P form s.flags) 6 0 s := by
    cases form with
    | condJump c => exact runFrom_eq_of_no_alw _ s.flags (alw_not_mem_seqCondJump c s.flags) 6 0 s rfl
    | _ => rfl
  have hlength : (seqOf P form s.flags).length ≤ 6 := by
    rw [length_seqOf ho]
    exact (Form.steps_bounds form).2
  rw [hfixed]
  exact runFrom_of_endsLast _ [] 6 s (endsLast_seqOf ho P s.flags) hlength

/-! ### Which sequence faults (rule R269 (a), log 25) -/

/-- The register that a form reads as a plain operand, by `W(r)`. -/
def Form.plainSource : Form → Option Reg
  | .tst r | .mov _ r | .lod _ r | .push r | .stoi r | .sto _ r | .inc r | .add r | .sub r | .rsb r | .cmpRegRb r
  | .cmpRbReg r | .lccReg r | .lcdReg r => some r
  | .condJump _ | .clra | .movi _ | .jmpi | .jmz | .hlt | .undef | .nop | .peek _ | .lccMem | .lccPgm | .lcdPgm | .ret
  | .pop _ | .lccImm | .lodImm _ | .lcdImm | .clr _ | .pushi | .call | .calli | .stoiImm => none

/-- The operand is code 6 or 7. -/
def Form.drivesPseudo (f : Form) : Bool := (Form.plainSource f).any fun r => r == .stpi || r == .imm

/-- An operand that reads as a byte is a real register. -/
theorem Form.drivesPseudo_eq_false {f : Form} {r : Reg} {s : State} {v : Byte} (hf : Form.plainSource f = some r)
    (hv : s.reg r = some v) : Form.drivesPseudo f = false := by
  have hr : ¬(r = .stpi ∨ r = .imm) := by
    rw [← State.reg_eq_none_iff s r, hv]
    nofun
  simpa [Form.drivesPseudo, hf] using hr

/-- The first fault of an opcode's sequence, row by row of the maps R91 to R94. -/
theorem findSome?_faultOf_seqOf {i : Instr} {f : Form} (hform : i.form = some f) (ho : f.isOpen = false) (P : OpenSeqs)
    (fl : Flags) :
    (seqOf P f fl).findSome? faultOf = if Form.drivesPseudo f then some .pseudoDriver else none := by
  cases i <;> cases hform
  case jc | jz | jo | jnn | jn | jno | jnz | jnc => rw [seqOf, seqCondJump]; split <;> rfl
  case lccPgm | lccImm | calli | stoiImmImm => cases ho
  all_goals rfl

/-- The 30 opcodes of rule R269 are those whose plain operand is a pseudo register. -/
theorem mem_pseudoOpcodes_iff {i : Instr} {f : Form} (hform : i.form = some f) :
    encodeByte i ∈ pseudoOpcodes ↔ Form.drivesPseudo f = true := by
  cases i <;> cases hform <;> decide

/-- What an opcode does whose sequence the spec gives: it faults at a pseudo register, and else does its steps in order. -/
theorem exec_of_not_open {i : Instr} {f : Form} (hform : i.form = some f) (ho : f.isOpen = false) (s : State) :
    exec i s = if Form.drivesPseudo f then .fault .pseudoDriver
      else .next (afterSteps (seqOf s.romSeqs f s.flags) s) := by
  rw [exec_of_form s.romSeqs i f s hform ho, runSeq_seqOf ho, findSome?_faultOf_seqOf hform ho]
  split <;> rfl

theorem exec_eq_afterSteps {i : Instr} {f : Form} (hform : i.form = some f) (ho : f.isOpen = false)
    (hreal : Form.drivesPseudo f = false) (s : State) :
    exec i s = .next (afterSteps (seqOf s.romSeqs f s.flags) s) := by
  rw [exec_of_not_open hform ho, hreal]
  rfl

theorem exec_of_drivesPseudo {i : Instr} {f : Form} (hform : i.form = some f) (hp : Form.drivesPseudo f = true)
    (s : State) : exec i s = .fault .pseudoDriver := by
  have ho : f.isOpen = false := by
    cases f <;> first | rfl | cases hp
  rw [exec_of_not_open hform ho, hp]
  rfl

/-- An opcode whose sequence the spec gives and that answers a next state has done its steps in order. -/
theorem exec_next_of_not_open {i : Instr} {f : Form} (hform : i.form = some f) (ho : f.isOpen = false) {s t : State}
    (h : exec i s = .next t) :
    Form.drivesPseudo f = false ∧ t = afterSteps (seqOf s.romSeqs f s.flags) s := by
  rw [exec_of_not_open hform ho] at h
  cases hp : Form.drivesPseudo f with
  | true => rw [hp] at h; cases h
  | false =>
    rw [hp] at h
    exact ⟨rfl, (Host.Outcome.next.inj h).symm⟩

/-! ### Completion and faults (rule R269) -/

theorem isOpen_of_lacks {s : State} {f : Form} (h : s.lacks f = true) : f.isOpen = true := by
  rw [State.lacks, Bool.and_eq_true] at h
  exact h.1

/-- Settles O8: a command class answers, an opcode does its steps when none of them names a pseudo register, and an OPEN
opcode does those of its parameter. -/
theorem instructionCompletes : Obligations.InstructionCompletes := by
  unfold Obligations.InstructionCompletes
  intro i s hpseudo hopen
  rcases form_or_lcdCommand i with ⟨f, hf⟩ | hspace
  · cases ho : f.isOpen with
    | true =>
      obtain ⟨q, hq, hfaultless, hkeep⟩ := hopen f hf ho
      rw [exec_of_open i f s hf ho]
      exact ⟨_, runOpen_eq_afterSteps hq hfaultless hkeep⟩
    | false =>
      have hreal : Form.drivesPseudo f = false := by
        rw [← Bool.not_eq_true, ← mem_pseudoOpcodes_iff hf]
        exact hpseudo (space_eq_opcode_of_form hf)
      exact ⟨_, exec_eq_afterSteps hf ho hreal s⟩
  · exact ⟨_, exec_of_lcdCommand hspace s⟩

/-- Everything that an instruction's fault can be. -/
theorem exec_fault {i : Instr} {s : State} {e : Fault} (h : exec i s = .fault e) :
    (i.space = .opcode ∧ encodeByte i ∈ pseudoOpcodes ∧ e = .pseudoDriver) ∨
      (∃ f, i.form = some f ∧ s.lacks f = true ∧ e = .openUnsupplied) ∨
      ∃ f q, i.form = some f ∧ s.openSeq f = some q ∧ (seqFaultless q = false ∨ keepsOpcode f q s = false) := by
  rcases form_or_lcdCommand i with ⟨f, hf⟩ | hspace
  · cases ho : f.isOpen with
    | true =>
      rw [exec_of_open i f s hf ho] at h
      rcases lacks_or_openSeq s ho with hl | ⟨q, hq⟩
      · rw [runOpen_lacks hl] at h
        exact .inr (.inl ⟨f, hf, hl, (Host.Outcome.fault.inj h).symm⟩)
      · refine .inr (.inr ⟨f, q, hf, hq, ?_⟩)
        by_contra hgood
        simp only [not_or, Bool.not_eq_false] at hgood
        rw [runOpen_eq_afterSteps hq hgood.1 hgood.2] at h
        cases h
    | false =>
      rw [exec_of_not_open hf ho] at h
      cases hp : Form.drivesPseudo f with
      | true =>
        rw [hp] at h
        exact .inl ⟨space_eq_opcode_of_form hf, (mem_pseudoOpcodes_iff hf).2 hp, (Host.Outcome.fault.inj h).symm⟩
      | false => rw [hp] at h; cases h
  · rw [exec_of_lcdCommand hspace] at h
    cases h

theorem exec_not_refused (i : Instr) (s : State) (e : Refusal) : exec i s ≠ .refused e := by
  rcases form_or_lcdCommand i with ⟨f, hf⟩ | hspace
  · cases ho : f.isOpen with
    | true =>
      rw [exec_of_open i f s hf ho]
      exact runRom_not_refused 6 0 f s e
    | false =>
      rw [exec_of_not_open hf ho]
      split <;> nofun
  · rw [exec_of_lcdCommand hspace]
    nofun

/-- Settles O9: a sequence faults at a pseudo register it names, an OPEN opcode where the ROM lacks its words, and nothing
else does but through a parameter. -/
theorem pseudoRegisterFaults : Obligations.PseudoRegisterFaults := by
  unfold Obligations.PseudoRegisterFaults
  refine ⟨fun i s hspace hmem => ?pseudo, fun i f s hf hl => ?lacks, fun i s e => exec_fault, exec_not_refused⟩
  case pseudo =>
    rcases form_or_lcdCommand i with ⟨f, hf⟩ | hlcd
    · exact exec_of_drivesPseudo hf ((mem_pseudoOpcodes_iff hf).1 hmem) s
    · rw [hspace] at hlcd
      cases hlcd
  case lacks => rw [exec_of_open i f s hf (isOpen_of_lacks hl), runOpen_lacks hl]

end Sys2Proof.Machine
end

section
/-! PROOFS. The steps of 40_fetch_sequencer.md and 46_datapath_harness.md (rules R111 to R118, R271, R330): what a step at
an instruction boundary runs, that it is the ROM's microsteps, and where it ends; with the OPEN opcodes, which run the
ROM's words (rules R153, R157, R183, R184). -/

namespace Sys2Proof.Machine

/-! ### A step at an instruction boundary (rules R111, R112, R330) -/

/-- A step of a running machine fetches what is left to fetch and runs the instruction that IR then holds. -/
theorem step_of_running {s : State} (hops : s.ops = []) (hh : s.halted = false) (hr : s.running = true)
    (hmt : s.mt.toNat ≤ 2) : step s = andThen (fetch s) fun t => exec (decodeOpcode t.ir) t := by
  simp only [step, hops, hh, hr, Bool.not_true, Bool.or_self, Bool.false_eq_true, if_false, if_pos hmt]

/-- The state that the fetch at an instruction boundary ends in. -/
def State.fetched (s : State) : State :=
  { s with mar := s.pc, ir := s.load true s.pc, pc := s.pc + 1#8, mt := 2#3 }

theorem step_at_boundary {s : State} (hops : s.ops = []) (hh : s.halted = false) (hr : s.running = true)
    (hmt : s.mt = 0#3) : step s = exec (decodeOpcode (s.load true s.pc)) s.fetched := by
  rw [step_of_running hops hh hr (by rw [hmt]; decide), fetch_boundary s hmt]
  rfl

/-- Settles O4: every opcode is well formed, and the byte at the PC is the one that fetch brings to IR. -/
theorem stepRunsDecoded : Obligations.StepRunsDecoded := by
  unfold Obligations.StepRunsDecoded
  intro s i rest hops hh hr hmt hdecode
  rw [decode_opcode_cons] at hdecode
  cases hdecode
  exact ⟨wf_of_space_opcode (space_decodeOpcode _), step_at_boundary hops hh hr hmt⟩

/-- Of three bytes loaded at an address, the first is read there: the other two go to the next two addresses. -/
theorem read_load_three (m : Memory) (a b0 b1 b2 : Byte) :
    (Memory.load m a [b0, b1, b2]).read a.toNat = b0 := by
  have h1 : a.toNat ≠ (a + 1#8).toNat := by bv_omega
  have h2 : a.toNat ≠ (a + 1#8 + 1#8).toNat := by bv_omega
  simp only [Memory.load]
  rw [Memory.read_write_other _ _ _ _ h2, Memory.read_write_other _ _ _ _ h1, Memory.read_write_same]

theorem load_withFetchWord (s : State) {w : Nat} (hw : w < 256) :
    (s.withFetchWord 8 w).load true s.pc = BitVec.ofNat 8 w := by
  have hmod : w % 2 ^ 8 = w := Nat.mod_eq_of_lt hw
  show (Memory.load s.pmem s.pc (tableBytes 8 w)).read s.pc.toNat = _
  rw [tableBytes, hmod, read_load_three]

/-- Settles O5: the word's byte stands at the PC, where the step fetches it. -/
theorem placedWordRuns : Obligations.PlacedWordRuns := by
  unfold Obligations.PlacedWordRuns
  intro s w i hw hdecode
  have hi : decodeOpcode (BitVec.ofNat 8 w) = i := by
    have : decodeTableWord 8 w = some (decodeOpcode (BitVec.ofNat 8 (w % 2 ^ 8))) := rfl
    rw [this, Nat.mod_eq_of_lt (show w < 2 ^ 8 from hw)] at hdecode
    exact Option.some.inj hdecode
  rw [step_at_boundary rfl rfl rfl rfl, State.withFetchWord_pc, load_withFetchWord s hw, hi, State.fetched,
    State.withFetchWord_pc, load_withFetchWord s hw]

/-! ### The run of microsteps to the instruction's end (rules R117, R271) -/

theorem microstep_of_halted {s : State} (h : s.halted = true) : microstep s = .next s := if_pos h

theorem runFor_of_halted {s : State} (h : s.halted = true) (n : Nat) : runFor n s = .next s := by
  cases n with
  | zero => rfl
  | succ n => exact if_pos h

theorem runFor_succ {s : State} (h : s.halted = false) (n : Nat) :
    runFor (n + 1) s = andThen (microstep s) (runFor n) := by
  rw [runFor, if_neg (by simp [h])]

theorem runMicro_succ (s : State) (n : Nat) : runMicro (n + 1) s =
    andThen (microstep s) fun t => if t.mt = 0#3 ∨ t.halted = true then .next t else runMicro n t := rfl

theorem andThen_assoc (r : Result) (f g : State → Result) :
    andThen (andThen r f) g = andThen r fun s => andThen (f s) g := by
  cases r <;> rfl

/-- A run of `m + n` microsteps is one of `m` and then one of `n`: past the halt neither does anything. -/
theorem runFor_add (m n : Nat) (s : State) : runFor (m + n) s = andThen (runFor m s) (runFor n) := by
  induction m generalizing s with
  | zero => rw [Nat.zero_add]; rfl
  | succ m ih =>
    cases h : s.halted with
    | true => rw [runFor_of_halted h, runFor_of_halted h, andThen_next, runFor_of_halted h]
    | false =>
      rw [Nat.succ_add, runFor_succ h, runFor_succ h, andThen_assoc]
      exact congrArg _ (funext ih)

/-- After a step that ends its instruction the counter is 0 or the machine is halted. -/
theorem ended_applySet {S : SigSet} (h : endsRun S = true) (s : State) :
    (applySet S s).mt = 0#3 ∨ (applySet S s).halted = true := by
  rw [mt_applySet, halted_applySet, nextMt]
  cases htr : S.contains .tr with
  | true => exact .inl rfl
  | false =>
    rw [endsRun, htr, Bool.false_or] at h
    exact .inr (by rw [h]; rfl)

/-- After any other step the counter is one on, and the machine is halted as before. -/
theorem going_on_applySet {S : SigSet} (h : endsRun S = false) (s : State) :
    (applySet S s).mt = s.mt + 1#3 ∧ (applySet S s).halted = s.halted := by
  obtain ⟨htr, hhlt⟩ : S.contains .tr = false ∧ S.contains .hlt = false := by simpa [endsRun] using h
  rw [mt_applySet, halted_applySet, nextMt, htr, hhlt]
  exact ⟨rfl, rfl⟩

/-- A microtime before the last one is not the last one's successor, so that the run goes on. -/
theorem not_ended_applySet {S : SigSet} (h : endsRun S = false) {s : State} (hh : s.halted = false)
    (hmt : s.mt.toNat < 7) :
    ¬((applySet S s).mt = 0#3 ∨ (applySet S s).halted = true) ∧ (applySet S s).mt.toNat = s.mt.toNat + 1 := by
  obtain ⟨hnext, hhalt⟩ := going_on_applySet h s
  rw [hnext, hhalt, hh]
  exact ⟨fun h => h.elim (fun h => by bv_omega) fun h => Bool.false_ne_true h, by bv_omega⟩

/-- The microstep of a running machine past its fetch commits the word of its opcode's form; an OPEN form may lack it. -/
theorem microstep_past_fetch {s : State} (hh : s.halted = false) (hmt : 2 ≤ s.mt.toNat) :
    microstep s = if s.lacks (formOf s.ir) then .fault .openUnsupplied
      else commit (((seqOf s.romSeqs (formOf s.ir) s.flags)[s.mt.toNat - 2]?).getD filler) s := by
  rw [microstep, if_neg (by simp [hh]), rom_of_two_le _ _ _ hmt]
  simp only [hmt, true_and]

/-- The run of an opcode's words from IR's form on is the run of microsteps: both read the word of the form that IR holds,
and go on until a word ends the instruction, at microtime 7 at the latest. -/
theorem runRom_eq_runMicro (fuel k : Nat) (s : State) (hmt : s.mt.toNat = 2 + k) (hk : k ≤ 5) (hh : s.halted = false) :
    runRom fuel k (formOf s.ir) s = runMicro fuel s := by
  induction fuel generalizing k s with
  | zero => rfl
  | succ fuel ih =>
    rw [runMicro_succ, microstep_past_fetch hh (by omega)]
    cases hl : s.lacks (formOf s.ir) with
    | true => rw [runRom_lacks hl]; rfl
    | false =>
      have hlate := word_late hl s.flags k
      rw [runRom_succ hl, hmt, Nat.add_sub_cancel_left, if_neg Bool.false_ne_true]
      generalize ((seqOf s.romSeqs (formOf s.ir) s.flags)[k]?).getD filler = S at hlate ⊢
      cases hc : commit S s with
      | fault e => rfl
      | refused e => rfl
      | next t =>
        obtain ⟨-, rfl⟩ := (commit_next_iff S s t).1 hc
        rw [andThen_next, andThen_next]
        cases he : endsRun S with
        | true => rw [if_pos rfl, if_pos (ended_applySet he s)]
        | false =>
          have h5 : k ≠ 5 := by
            rintro rfl
            have htr := (hlate (by omega)).2 (Nat.le_refl 5)
            rw [endsRun, htr] at he
            cases he
          obtain ⟨hgo, hnext⟩ := not_ended_applySet he hh (by omega)
          have hform : (if S.contains .irw then formOf (applySet S s).ir else formOf s.ir) =
              formOf (applySet S s).ir := by
            split
            · rfl
            · next hirw => rw [ir_applySet_of_not_mem s (by simpa using hirw)]
          rw [if_neg Bool.false_ne_true, if_neg hgo, hform]
          exact ih (k + 1) _ (by omega) (by omega) ((going_on_applySet he s).2.trans hh)

/-- A sequence that the spec gives runs as the ROM's words of its form: no step of it latches IR. -/
theorem runFrom_seqOf_eq_runRom {form : Form} (ho : form.isOpen = false) (P : OpenSeqs) (fuel k : Nat) (s : State) :
    runFrom (seqOf P form) fuel k s = runRom fuel k form s := by
  induction fuel generalizing k s with
  | zero => rfl
  | succ fuel ih =>
    have hl : s.lacks form = false := by rw [State.lacks, ho]; rfl
    have hsame : seqOf s.romSeqs form s.flags = seqOf P form s.flags := by
      cases form <;> first | rfl | cases ho
    rw [runFrom_succ, runRom_succ hl, hsame]
    have hirw : (((seqOf P form s.flags)[k]?).getD filler).contains .irw = false := by
      cases hk : (seqOf P form s.flags)[k]? with
      | none => rfl
      | some S =>
        have := List.all_eq_true.1 (seqWithout_seqOf ho (g := .irw) rfl P s.flags) S (List.mem_of_getElem? hk)
        simpa using this
    simp only [hirw, Bool.false_eq_true, if_false, ih]

/-- Every opcode runs the words that the ROM holds for its form. -/
theorem exec_eq_runOpen {i : Instr} {f : Form} (hform : i.form = some f) (s : State) : exec i s = runOpen f s := by
  cases ho : f.isOpen with
  | true => exact exec_of_open i f s hform ho
  | false =>
    rw [exec_of_form s.romSeqs i f s hform ho]
    exact runFrom_seqOf_eq_runRom ho _ 6 0 s

/-- At microtime 2, the opcode in IR is the run of microsteps to the instruction's end. -/
theorem exec_eq_runMicro {i : Instr} {f : Form} (hform : i.form = some f) {s : State} (hmt : s.mt = 2#3)
    (hir : formOf s.ir = f) (hh : s.halted = false) : exec i s = runMicro 6 s := by
  rw [exec_eq_runOpen hform, runOpen, ← hir]
  exact runRom_eq_runMicro 6 0 s (by rw [hmt]; rfl) (by omega) hh

/-- Settles O31: an OPEN opcode is the ROM's microsteps, its parameter's steps in order where they keep the opcode, and a
parameter of its shape counts as supplied. -/
theorem openEffectOfAnySequence : Obligations.OpenEffectOfAnySequence := by
  unfold Obligations.OpenEffectOfAnySequence
  refine ⟨fun i f s hform _ hmt hir hh => exec_eq_runMicro hform hmt hir hh,
    fun i f s q hform hq hfaultless hkeep => ⟨?steps, afterSteps_mt (openSeq_spec hq).1 s⟩,
    fun s q => ⟨?imm, ?pgm, ?calli, ?stoi, And.left, And.left, fun _ => And.left, And.left⟩⟩
  case steps => rw [exec_eq_runOpen hform, runOpen_eq_afterSteps hq hfaultless hkeep]
  case imm | pgm | calli | stoi => exact fun hq hshape => (admitted_eq_some_iff _ _ _).2 ⟨hq, hshape⟩

/-! ### The microsteps of a fetch -/

theorem microstep_fetch0 {s : State} (hh : s.halted = false) (hmt : s.mt = 0#3) : microstep s = commit fetch0 s := by
  rw [microstep, if_neg (by simp [hh]), if_neg (by simp [hmt]), hmt, rom_mt_zero]

theorem microstep_fetch1 {s : State} (hh : s.halted = false) (hmt : s.mt = 1#3) : microstep s = commit fetch1 s := by
  rw [microstep, if_neg (by simp [hh]), if_neg (by simp [hmt]), hmt, rom_mt_one]

/-- The state between the two fetch microsteps. -/
def State.addressed (s : State) : State := { s with mar := s.pc, mt := 1#3 }

theorem commit_fetch0 {s : State} (hmt : s.mt = 0#3) : commit fetch0 s = .next s.addressed := by
  cases s
  cases hmt
  rfl

theorem commit_fetch1_addressed (s : State) : commit fetch1 s.addressed = .next s.fetched := rfl

theorem microstep_of_boundary {s : State} (hh : s.halted = false) (hmt : s.mt = 0#3) :
    microstep s = .next s.addressed := by
  rw [microstep_fetch0 hh hmt, commit_fetch0 hmt]

theorem microstep_addressed {s : State} (hh : s.halted = false) : microstep s.addressed = .next s.fetched := by
  rw [microstep_fetch1 (s := s.addressed) hh rfl, commit_fetch1_addressed]

theorem runMicro_of_boundary {s : State} (hh : s.halted = false) (hmt : s.mt = 0#3) :
    runMicro 8 s = runMicro 6 s.fetched := by
  rw [runMicro_succ, microstep_of_boundary hh hmt, andThen_next, if_neg (by simp [State.addressed, hh]),
    runMicro_succ, microstep_addressed hh, andThen_next, if_neg (by simp [State.fetched, hh])]

theorem runFor_two_of_boundary {s : State} (hh : s.halted = false) (hmt : s.mt = 0#3) :
    runFor 2 s = .next s.fetched := by
  rw [runFor_succ hh, microstep_of_boundary hh hmt, andThen_next, runFor_succ (s := s.addressed) hh,
    microstep_addressed hh]
  rfl

/-! ### The number of microsteps (rule R118) -/

/-- Where the ROM's words for an opcode are those of one list on all the states that the run comes by, the run to the
instruction's end makes as many microsteps as the list has steps left. -/
theorem runFor_eq_runMicro {p : State → Prop} {f : Form} {q : List SigSet} (hlen : q.length ≤ 6)
    (hword : ∀ s, p s → s.lacks f = false ∧ seqOf s.romSeqs f s.flags = q)
    (hstep : ∀ S ∈ q, ∀ s, p s → p (applySet S s)) (rest : List SigSet) :
    ∀ (k fuel : Nat) (s : State), q.drop k = rest → endsLast rest = true → p s → formOf s.ir = f →
      s.mt.toNat = 2 + k → s.halted = false → keepsOpcode f rest s = true → rest.length ≤ fuel →
      runFor rest.length s = runMicro fuel s := by
  induction rest with
  | nil => exact fun _ _ _ _ he => nomatch he
  | cons S rest ih =>
    intro k fuel s hdrop he hp hir hmt hh hkeep hfuel
    obtain ⟨fuel, rfl⟩ : ∃ n, fuel = n + 1 := ⟨fuel - 1, by rw [List.length_cons] at hfuel; omega⟩
    have hk : q[k]? = some S := by rw [← List.head?_drop, hdrop, List.head?_cons]
    have hklt : k < q.length := (List.getElem?_eq_some_iff.1 hk).1
    obtain ⟨hl, hseq⟩ := hword s hp
    rw [List.length_cons, runFor_succ hh, runMicro_succ, microstep_past_fetch hh (by omega), hir, hl, hseq, hmt,
      Nat.add_sub_cancel_left, hk, Option.getD_some, if_neg Bool.false_ne_true]
    cases hc : commit S s with
    | fault e => rfl
    | refused e => rfl
    | next t =>
      obtain ⟨-, rfl⟩ := (commit_next_iff S s t).1 hc
      rw [andThen_next, andThen_next]
      cases rest with
      | nil => rw [if_pos (ended_applySet he s)]; rfl
      | cons T rest =>
        obtain ⟨hS, hrest⟩ : endsRun S = false ∧ endsLast (T :: rest) = true := by simpa [endsLast] using he
        have hdrop' : q.drop (k + 1) = T :: rest := by rw [← List.drop_drop, hdrop]; rfl
        have hk' : k + 1 < q.length := by
          have := congrArg List.length hdrop'
          simp only [List.length_drop, List.length_cons] at this
          omega
        obtain ⟨hgo, hnext⟩ := not_ended_applySet hS hh (by omega)
        obtain ⟨hirw, hkeep⟩ := (keepsOpcode_cons_iff _ _ _ _).1 hkeep
        rw [if_neg hgo]
        refine ih (k + 1) fuel _ hdrop' hrest (hstep S (List.mem_of_getElem? hk) s hp) ?_ (by omega)
          ((going_on_applySet hS s).2.trans hh) hkeep (Nat.le_of_succ_le_succ hfuel)
        rcases hirw with h | h | h
        · cases h
        · rw [ir_applySet_of_not_mem s (by simpa using h), hir]
        · exact h

theorem endsLast_of_endsRun_iff {q : List SigSet} (hne : q ≠ [])
    (h : ∀ k S, q[k]? = some S → (endsRun S = true ↔ k + 1 = q.length)) : endsLast q = true := by
  induction q with
  | nil => exact absurd rfl hne
  | cons S rest ih =>
    have hS := h 0 S rfl
    cases rest with
    | nil => exact hS.2 rfl
    | cons T rest =>
      have hgo : endsRun S = false := by simpa using hS
      rw [endsLast, hgo, ih (List.cons_ne_nil _ _) fun k S' hk => ?_]
      · rfl
      · rw [h (k + 1) S' hk, List.length_cons, Nat.add_right_cancel_iff]

/-- A sequence of the shape of rule R115 without `HLT` ends with its last step. -/
theorem endsLast_of_shape {n : Nat} {q : List SigSet} (hshape : seqShape n q = true)
    (hhlt : seqWithout .hlt q = true) : endsLast q = true := by
  obtain ⟨hn, h1, -, -, htr⟩ := seqShape_spec hshape
  refine endsLast_of_endsRun_iff (List.ne_nil_of_length_pos (by omega)) fun k S hk => ?_
  have hnot : S.contains .hlt = false := by simpa using List.all_eq_true.1 hhlt S (List.mem_of_getElem? hk)
  rw [endsRun, hnot, Bool.or_false, htr k S hk, hn]

/-- At microtime 2, an opcode of a form is as many microsteps as the form has steps, an OPEN one where its parameter keeps
the opcode. -/
theorem runFor_steps_eq_runMicro {s : State} (hmt : s.mt = 2#3) (hh : s.halted = false)
    (hkeep : ∀ q, s.openSeq (formOf s.ir) = some q → keepsOpcode (formOf s.ir) q s = true)
    (hl : s.lacks (formOf s.ir) = false) : runFor (formOf s.ir).steps s = runMicro 6 s := by
  have hmt2 : s.mt.toNat = 2 + 0 := by rw [hmt]; rfl
  generalize hf : formOf s.ir = f at hkeep hl ⊢
  cases ho : f.isOpen with
  | true =>
    obtain ⟨q, hq⟩ := (lacks_or_openSeq s ho).resolve_left (by simp [hl])
    obtain ⟨hshape, hhlt⟩ := openSeq_spec hq
    obtain ⟨hn, -, h6, -⟩ := seqShape_spec hshape
    rw [← hn]
    exact runFor_eq_runMicro (p := fun t => t.openSeq f = some q) (by omega)
      (fun t ht => ⟨lacks_of_openSeq ht, seqOf_romSeqs ht _⟩) (fun S _ t ht => by rw [applySet_openSeq, ht]) q
      0 6 s rfl (endsLast_of_shape hshape hhlt) hq hf hmt2 hh (hkeep q hq) (by omega)
  | false =>
    have hn := length_seqOf ho s.romSeqs s.flags
    have h6 := (Form.steps_bounds f).2
    have hends := endsLast_seqOf ho s.romSeqs s.flags
    have hsame := keepsOpcode_of_without (seqWithout_seqOf ho rfl s.romSeqs s.flags) f s
    have hlacks : ∀ t : State, t.lacks f = false := fun t => by rw [State.lacks, ho]; rfl
    generalize hq : seqOf s.romSeqs f s.flags = q at hn hends hsame
    rw [← hn]
    by_cases hjump : ∃ c, f = .condJump c
    · obtain ⟨c, rfl⟩ := hjump
      exact runFor_eq_runMicro (p := fun t => t.flags = s.flags) (by omega)
        (fun t ht => ⟨hlacks t, by rw [← hq, ht, seqOf_congr_param ho]⟩)
        (fun S hS t ht => (flags_applySet_of_not_mem_alw (alw_not_mem_seqCondJump c _ S (hq ▸ hS)) t).trans ht) q
        0 6 s rfl hends rfl hf hmt2 hh hsame (by omega)
    · exact runFor_eq_runMicro (p := fun _ => True) (by omega)
        (fun t _ => ⟨hlacks t, by rw [← hq, seqOf_congr_flags (not_exists.1 hjump), seqOf_congr_param ho]⟩)
        (fun _ _ _ _ => trivial) q 0 6 s rfl hends trivial hf hmt2 hh hsame (by omega)

/-- Without its words an OPEN opcode's run faults at its first microstep. -/
theorem runFor_eq_runMicro_of_lacks {s : State} (hmt : s.mt = 2#3) (hh : s.halted = false)
    (hl : s.lacks (formOf s.ir) = true) (m n : Nat) : runFor (m + 1) s = runMicro (n + 1) s := by
  rw [runFor_succ hh, runMicro_succ, microstep_past_fetch hh (by rw [hmt]; decide), hl]
  rfl

/-- Settles O7: after the two fetch microsteps the instruction is the run of microsteps, which ends with the last step of its
sequence. -/
theorem stepIsMicrosteps : Obligations.StepIsMicrosteps := by
  unfold Obligations.StepIsMicrosteps
  refine ⟨fun s hops hh hr hmt => ?step, runFor_add, fun n s h => ⟨microstep_of_halted h, runFor_of_halted h n⟩⟩
  case step =>
    have hmicro : step s = runMicro 6 s.fetched := by
      rw [step_at_boundary hops hh hr hmt]
      exact exec_eq_runMicro (form_decodeOpcode _) rfl rfl hh
    refine ⟨hmicro.trans (runMicro_of_boundary hh hmt).symm, fun f hf hkeep => ?_⟩
    subst hf
    rw [hmicro, runFor_add, runFor_two_of_boundary hh hmt, andThen_next]
    have hsupplied : ∀ f, s.fetched.openSeq f = s.openSeq f := fun f => by cases f <;> rfl
    cases hl : s.fetched.lacks (formOf s.fetched.ir) with
    | false => exact (runFor_steps_eq_runMicro (s := s.fetched) rfl hh (fun q hq => hkeep q (hsupplied _ ▸ hq)) hl).symm
    | true =>
      obtain ⟨n, hn⟩ : ∃ n, (formOf (s.load true s.pc)).steps = n + 1 :=
        ⟨_, (Nat.succ_pred_eq_of_pos (Form.steps_bounds _).1).symm⟩
      rw [hn]
      exact (runFor_eq_runMicro_of_lacks (s := s.fetched) rfl hh hl n 5).symm

/-! ### Where a step ends (rules R115 (b), R117, R118, R304) -/

/-- The counter has eight values, so that a run of as many microsteps as are left gets to the instruction's end. -/
theorem runMicro_ends (fuel : Nat) (s t : State) (hfuel : 8 ≤ s.mt.toNat + fuel) (h : runMicro fuel s = .next t) :
    t.mt = 0#3 ∨ t.halted = true := by
  induction fuel generalizing s with
  | zero => omega
  | succ fuel ih =>
    rw [runMicro_succ, andThen_next_iff] at h
    obtain ⟨u, hu, h⟩ := h
    split at h
    · next hend =>
      cases h
      exact hend
    · next hgo =>
      refine ih u ?_ h
      obtain ⟨hh, rfl⟩ | ⟨-, -, hc⟩ := (microstep_next_iff s u).1 hu
      · exact absurd (.inr hh) hgo
      · obtain ⟨-, rfl⟩ := (commit_next_iff _ _ _).1 hc
        obtain ⟨hmt, -⟩ := going_on_applySet (Bool.eq_false_iff.2 fun he => hgo (ended_applySet he s)) s
        rw [hmt] at hgo ⊢
        have hne : s.mt + 1#3 ≠ 0#3 := fun h => hgo (.inl h)
        bv_omega

/-- A fetch up to microtime 2 ends there, and halts nothing. -/
theorem fetch_ends {s t : State} (hmt : s.mt.toNat ≤ 2) (h : fetch s = .next t) :
    t.mt = 2#3 ∧ t.halted = s.halted := by
  obtain h0 | h1 | h2 : s.mt = 0#3 ∨ s.mt = 1#3 ∨ s.mt = 2#3 := by bv_omega
  · rw [fetch_boundary s h0] at h
    cases h
    exact ⟨rfl, rfl⟩
  · rw [fetch, h1] at h
    obtain ⟨-, rfl⟩ := (commit_next_iff _ _ _).1 h
    exact ⟨by rw [mt_applySet, h1]; rfl, rfl⟩
  · rw [fetch_done s (by rw [h2]; decide)] at h
    cases h
    exact ⟨h2, rfl⟩

/-- Settles O6: a step that does not leave a halted machine alone is a run of microsteps to the instruction's end. -/
theorem stepEndsAtBoundary : Obligations.StepEndsAtBoundary := by
  unfold Obligations.StepEndsAtBoundary
  intro s t hops hr hstep
  have hend : t.mt = 0#3 ∨ t.halted = true := by
    rcases step_next s t hstep with ⟨op, rest, hops', -⟩ | ⟨-, hidle, rfl⟩ | ⟨-, hh, -, hmt, u, hu, he⟩ | ⟨-, -, -, hmt, hrun⟩
    · rw [hops] at hops'
      cases hops'
    · exact .inr (hidle.resolve_right (by simp [hr]))
    · obtain ⟨humt, huh⟩ := fetch_ends hmt hu
      rw [exec_eq_runMicro (form_decodeOpcode u.ir) humt rfl (huh.trans hh)] at he
      exact runMicro_ends 6 u t (by rw [humt]; decide) he
    · exact runMicro_ends 8 s t (by omega) hrun
  simpa [State.atBoundary] using hend

end Sys2Proof.Machine
end

section
/-! PROOFS. The statements of 70_reset_and_hazards.md, continued: the state after reset and after a launch (rule R270), and
the moves of the host, each of which a step takes from the queue (rules R220, R268, R320 to R322, R338). -/

namespace Sys2Proof.Machine

/-! ### Reset and launch (rules R270, R320 to R322) -/

/-- Settles O1: the registers are those of `State.reset`, and the launch is the one that `launch_next_iff` gives. -/
theorem resetState : Obligations.ResetState := by
  unfold Obligations.ResetState
  refine ⟨fun r hstpi himm => ?reg, rfl, rfl, rfl, rfl, rfl, rfl, rfl, fun P => rom_mt_zero P _ _, rfl, rfl, rfl,
    fun seqs program data width height hw hh h4 => ?launch⟩
  case reg =>
    cases r with
    | stpi => exact absurd rfl hstpi
    | imm => exact absurd rfl himm
    | _ => rfl
  case launch => exact (launch_next_iff _ _ _ _ _ _).2 ⟨(geometryOk_iff width height).2 ⟨hw, hh, h4⟩, rfl⟩

/-- Settles O49: after a reset a run is on, as in `State.reset`. -/
theorem hostResetEffect : Obligations.HostResetEffect := by
  unfold Obligations.HostResetEffect
  exact fun s => rfl

/-! ### A waiting move (rules R220, R338) -/

/-- A step with a waiting move performs it and takes it out of the queue. -/
theorem step_of_ops {s : State} {op : HostOp} {rest : List HostOp} (h : s.ops = op :: rest) :
    step s = hostMove op { s with ops := rest } := by
  simp only [step, h]

theorem outsideRun_of_running {s : State} (h : s.running = true) (r : Result) :
    outsideRun s r = .refused .duringRun := by
  simp [outsideRun, h]

/-- During a run the host has no move but a redraw, a resume and a reset. -/
theorem hostMove_of_running {op : HostOp} {s : State} (h : s.running = true) (hu : op ≠ .lcdUpdatePixels)
    (hres : op ≠ .resume) (hreset : op ≠ .reset) : hostMove op s = .refused .duringRun := by
  cases op with
  | lcdUpdatePixels => exact absurd rfl hu
  | resume => exact absurd rfl hres
  | reset => exact absurd rfl hreset
  | _ => exact outsideRun_of_running h _

theorem resume_of_not_halted {s : State} (h : s.halted = false) : resume s = .refused .resumeNotHalted := by
  rw [resume, h]
  rfl

theorem run_of_step_next {s t : State} (h : step s = .next t) (k : Nat) :
    Host.Core.run Sys2Proof.core (k + 1) s = Host.Core.run Sys2Proof.core k t := by
  have hcore : Sys2Proof.core.step s = .next t := h
  simp only [Host.Core.run, hcore]

/-- The machine before its first reset with the parameters supplied and the memories loaded. -/
def State.loaded (seqs : OpenSupply) (program data : List Byte) : State :=
  { State.setup with
    pmem := Memory.load [] 0#8 program
    dmem := Memory.load [] 0#8 data
    openSeqs := seqs }

/-- The five moves before the first reset: three that fill the machine, the LCD's construction, and the reset. -/
theorem run_setup_eq_launch (seqs : OpenSupply) (program data : List Byte) {width height : Nat}
    (hg : geometryOk width height = true) :
    Host.Core.run Sys2Proof.core 5
        { State.setup with
          ops := [.supplyOpen seqs, .loadProgram program, .loadData data, .lcdNew width height, .reset] } =
      State.launch seqs program data width height := by
  have hloaded : Host.Core.run Sys2Proof.core 5
        { State.setup with
          ops := [.supplyOpen seqs, .loadProgram program, .loadData data, .lcdNew width height, .reset] } =
      Host.Core.run Sys2Proof.core 2
        { State.loaded seqs program data with ops := [.lcdNew width height, .reset] } := rfl
  have hlcd : step { State.loaded seqs program data with ops := [.lcdNew width height, .reset] } =
      .next ({ State.loaded seqs program data with ops := [.reset] }.setLcd (Lcd.make width height)) :=
    (step_of_ops rfl).trans (hostMove_lcdNew_of_ok rfl hg)
  rw [hloaded, run_of_step_next hlcd]
  exact ((launch_next_iff _ _ _ _ _ _).2 ⟨hg, rfl⟩).symm

/-- Settles O60: a step with a waiting move is that move, and the moves before the first reset make a launch. -/
theorem hostMoves : Obligations.HostMoves := by
  unfold Obligations.HostMoves
  refine ⟨fun s s' op rest hops hs' => ?_, fun seqs program data width height => run_setup_eq_launch seqs program data⟩
  have hstep : step s = hostMove op s' := by rw [step_of_ops hops, hs']
  rw [hstep]
  have hrun : s'.running = s.running := by rw [hs']
  have hhalted : s'.halted = s.halted := by rw [hs']
  refine ⟨fun hr => ?before, fun hr => hostMove_of_running (hrun.trans hr), ?redraw, ?resume, ?refused, ?reset⟩
  case before =>
    have hout := fun r => outsideRun_of_not_running (hrun.trans hr) r
    refine ⟨?supply, ?program, ?data, ?lcdNew, ?command, ?dataByte, ?text⟩
    case supply => rintro seqs rfl; exact hout _
    case program => rintro bytes rfl; rw [hostMove, hout, hs']
    case data => rintro bytes rfl; rw [hostMove, hout, hs']
    case lcdNew => rintro width height rfl hg; exact hostMove_lcdNew_of_ok (hrun.trans hr) hg
    case command => rintro b rfl; rw [hostMove, hout, exec_decodeCommand, hs']; rfl
    case dataByte => rintro b rfl; rw [hostMove, hout, hs']; rfl
    case text => rintro bytes rfl; rw [hostMove, hout, hs']; rfl
  case redraw => rintro rfl; rw [hs']; rfl
  case resume => rintro rfl hh; rw [hs']; exact (resume_next_iff _ _).2 ⟨hh, rfl⟩
  case refused => rintro rfl hh; exact resume_of_not_halted (hhalted.trans hh)
  case reset => rintro rfl; rfl

end Sys2Proof.Machine
end

section
/-! PROOFS. The effects of 41_mov.md, 42_lod.md, 43_sto.md and 44_alu.md (rules R130 to R207). One rule for each microstep
that the sequences are made of says what it does as named updates of the state; an effect is then its sequence's rules, one
after the other. -/

namespace Sys2Proof.Machine

/-! ### The ALU's results as sums and differences (rules R263, R264) -/

theorem res_addOut_false (x y : Byte) : (addOut x y false).res = x + y :=
  BitVec.eq_of_toNat_eq (by rw [toNat_res_addOut, BitVec.toNat_add]; rfl)

theorem flags_addOut_false (x y : Byte) : (addOut x y false).flags = sumFlags x y := by
  have hres : (addOut x y false).res = x + y := res_addOut_false x y
  rw [AluOut.flags, hres, sumFlags]
  simp only [addOut] at hres ⊢
  rw [hres]
  rfl

/-- With no second addend, the carry-in is the 1 of the sum. -/
theorem res_addOut_zero_true (x : Byte) : (addOut x 0#8 true).res = x + 1#8 :=
  BitVec.eq_of_toNat_eq (by rw [toNat_res_addOut, BitVec.toNat_add]; rfl)

theorem flags_addOut_zero_true (x : Byte) : (addOut x 0#8 true).flags = sumFlags x 1#8 := by
  have hres : (addOut x 0#8 true).res = x + 1#8 := res_addOut_zero_true x
  rw [AluOut.flags, hres, sumFlags]
  simp only [addOut] at hres ⊢
  rw [hres]
  rfl

/-- Adding nothing: no carry, no overflow. -/
theorem sumFlags_zero (x : Byte) : sumFlags x 0#8 = { c := false, z := x == 0#8, o := false, n := x.msb } := by
  have hlt : ¬256 ≤ x.toNat := by omega
  simp [sumFlags, hlt]

theorem xor_0xFF_eq_not (x : Byte) : x ^^^ 0xFF#8 = ~~~x :=
  BitVec.xor_allOnes

/-- A difference is the sum with the complement and a carry-in (rules R202, R263). -/
theorem res_addOut_not_true (x y : Byte) : (addOut x (y ^^^ 0xFF#8) true).res = x - y := by
  apply BitVec.eq_of_toNat_eq
  rw [toNat_res_addOut, xor_0xFF_eq_not, BitVec.toNat_not, BitVec.toNat_sub, Bool.toNat_true]
  congr 1
  omega

/-- The carry of a difference is 1 when there is no borrow, and its addends' signs agree when its operands' differ. -/
theorem flags_addOut_not_true (x y : Byte) : (addOut x (y ^^^ 0xFF#8) true).flags = differenceFlags x y := by
  have hres : (addOut x (y ^^^ 0xFF#8) true).res = x - y := res_addOut_not_true x y
  have hcarry : 256 ≤ x.toNat + (~~~y).toNat + 1 ↔ y.toNat ≤ x.toNat := by
    rw [BitVec.toNat_not]
    omega
  have hsign : (x.msb == (~~~y).msb) = (x.msb != y.msb) := by
    rw [BitVec.msb_not]
    cases x.msb <;> cases y.msb <;> rfl
  rw [AluOut.flags, hres, differenceFlags]
  simp only [addOut] at hres ⊢
  rw [hres]
  simp only [xor_0xFF_eq_not, hsign, Bool.toNat_true, hcarry]

theorem add_0xFF_eq_sub_one (x : Byte) : x + 0xFF#8 = x - 1#8 := by
  bv_omega

/-- The flags of an increment: the sum is 0, with a carry, exactly from 0xFF, and it overflows exactly from 0x7F. -/
theorem sumFlags_one (x : Byte) :
    sumFlags x 1#8 = { c := x == 0xFF#8, z := x == 0xFF#8, o := x == 0x7F#8, n := (x + 1#8).msb } := by
  have hcarry : 256 ≤ x.toNat + (1#8).toNat ↔ x = 0xFF#8 := by bv_omega
  have hzero : x + 1#8 = 0#8 ↔ x = 0xFF#8 := by bv_omega
  have hoverflow : (x.msb == (1#8).msb && (x + 1#8).msb != x.msb) = (x == 0x7F#8) := by
    rw [Bool.eq_iff_iff]
    simp only [Bool.and_eq_true, beq_iff_eq, bne_iff_ne, BitVec.msb_eq_decide, ne_eq, decide_eq_decide]
    bv_omega
  have hc : decide (256 ≤ x.toNat + (1#8).toNat) = (x == 0xFF#8) :=
    (decide_eq_decide.2 hcarry).trans (beq_eq_decide _ _).symm
  have hz : (x + 1#8 == 0#8) = (x == 0xFF#8) := by
    rw [beq_eq_decide, beq_eq_decide, decide_eq_decide]
    exact hzero
  rw [sumFlags, hc, hz, hoverflow]

/-! ### The microsteps -/

/-- A microstep that does not end its instruction moves the counter on. -/
def State.nextStep (s : State) : State := { s with mt := s.mt + 1#3 }

section Microsteps
variable (s : State)

theorem applySet_stepPcToMar : applySet stepPcToMar s = (s.setMar s.pc).nextStep := rfl

theorem applySet_stepPointer :
    applySet stepPointer s = ((s.setMar (s.load true s.mar)).setReg .pc (s.pc + 1#8)).nextStep := rfl

theorem applySet_stepStackUp : applySet stepStackUp s = (s.latch (addOut s.stp 0#8 true)).nextStep := rfl

theorem applySet_stepStackDown : applySet stepStackDown s = (s.latch (addOut s.stp 0xFF#8 false)).nextStep := by
  have hones : (0#8 ^^^ 0xFF#8 : Byte) = 0xFF#8 := rfl
  rw [← hones]
  rfl

theorem applySet_stepZero : applySet stepZero s = (s.latch (andOut s.pc 0#8)).nextStep := rfl

theorem applySet_stepAccToReg (r : Reg) : applySet (stepAccToReg r) s = (s.setReg r s.acc).endInstr := by
  cases r <;> rfl

/-- The last step of the loads: the byte at MAR to a register. -/
theorem applySet_loadToReg (r d : Reg) :
    applySet (pgmIfRc r ++ ([.bwMem, .r d, .tr] : SigSet)) s = (s.setReg d (s.load (decide (r = .rc)) s.mar)).endInstr := by
  by_cases hr : r = .rc
  · subst hr
    cases d <;> rfl
  · rw [pgmIfRc, if_neg hr, decide_eq_false hr]
    cases d <;> rfl

theorem applySet_loadData (d : Reg) :
    applySet [.bwMem, .r d, .tr] s = (s.setReg d (s.load false s.mar)).endInstr :=
  applySet_loadToReg s .pc d

variable {s} {r : Reg} {v : Byte}

theorem applySet_stepRegToMar (h : s.reg r = some v) : applySet (stepRegToMar r) s = (s.setMar v).nextStep := by
  cases r <;> cases h <;> rfl

/-- The last step of the stores: a register to the byte at MAR. -/
theorem applySet_storeReg (h : s.reg r = some v) (d : Reg) :
    applySet (pgmIfRc d ++ ([.w r, .mw, .tr] : SigSet)) s = (s.store (decide (d = .rc)) s.mar v).endInstr := by
  by_cases hd : d = .rc
  · subst hd
    cases r <;> cases h <;> rfl
  · rw [pgmIfRc, if_neg hd, decide_eq_false hd]
    cases r <;> cases h <;> rfl

end Microsteps

/-- The two microsteps that move the stack pointer up, and with it MAR: Acc and the flags are those of the sum. -/
theorem applySet_stackUp (s : State) : applySet stepAccToStack (applySet stepStackUp s) =
    { s with
      stp := s.stp + 1#8, mar := s.stp + 1#8, acc := s.stp + 1#8, flags := sumFlags s.stp 1#8
      mt := s.mt + 1#3 + 1#3 } := by
  rw [applySet_stepStackUp, State.latch, res_addOut_zero_true, flags_addOut_zero_true]
  rfl

/-- The two microsteps that move it down: the ALU adds 0xFF. -/
theorem applySet_stackDown (s : State) : applySet stepAccToStack (applySet stepStackDown s) =
    { s with
      stp := s.stp - 1#8, mar := s.stp - 1#8, acc := s.stp - 1#8, flags := sumFlags s.stp 0xFF#8
      mt := s.mt + 1#3 + 1#3 } := by
  rw [applySet_stepStackDown, State.latch, res_addOut_false, flags_addOut_false, add_0xFF_eq_sub_one]
  rfl

/-- Named updates of other fields than the counter come to the same before and after it. -/
theorem State.endInstr_setReg (s : State) (r : Reg) (v : Byte) : (s.setReg r v).endInstr = s.endInstr.setReg r v := by
  cases r <;> rfl

theorem State.endInstr_store (s : State) (pgm : Bool) (a v : Byte) :
    (s.store pgm a v).endInstr = s.endInstr.store pgm a v := by
  cases pgm <;> rfl

/-! ### The MOV group (rules R130 to R140) -/

/-- Settles O10: the condition selects between the two sequences. -/
theorem condJumpEffect : Obligations.CondJumpEffect := by
  unfold Obligations.CondJumpEffect
  intro i c s hform
  rw [exec_eq_afterSteps hform rfl rfl, seqOf, seqCondJump]
  cases condHolds c s.flags with
  | true => rfl
  | false => rfl

/-- Settles O11: the zero is the AND of the PC with nothing, and Acc brings it to each register. -/
theorem clearEffects : Obligations.ClearEffects := by
  unfold Obligations.ClearEffects
  have hzero : ∀ s : State, applySet stepZero s =
      ({ s with acc := 0#8, flags := { c := false, z := true, o := false, n := false } } : State).nextStep := fun s => by
    rw [applySet_stepZero, andOut, BitVec.and_zero]
    rfl
  refine ⟨fun i s hform => ?clra, fun i s hform => ?jmz, fun i d s hform => ?clr⟩
  case clra =>
    rw [exec_eq_afterSteps hform rfl rfl, seqOf, seqClra, afterSteps_cons, hzero]
    rfl
  case jmz =>
    rw [exec_eq_afterSteps hform rfl rfl, seqOf, seqJmz, afterSteps_cons, hzero]
    rfl
  case clr =>
    rw [exec_eq_afterSteps hform rfl rfl, seqOf, seqClr, afterSteps_cons, hzero, afterSteps_cons,
      applySet_stepAccToReg, State.endInstr_setReg]
    rfl

/-- With the PC as its destination the map has `jmpi` (rule R139). -/
theorem ne_pc_of_form_movi {i : Instr} {d : Reg} (h : i.form = some (.movi d)) : d ≠ .pc := by
  cases i <;> cases h <;> decide

/-- Settles O12: the immediate's address goes to MAR, and the byte there to the register. -/
theorem moveImmediateEffect : Obligations.MoveImmediateEffect := by
  unfold Obligations.MoveImmediateEffect
  refine ⟨fun i d s hform => ?movi, fun i s hform => ?jmpi⟩
  case movi =>
    have hd := ne_pc_of_form_movi hform
    rw [exec_eq_afterSteps hform rfl rfl, seqOf, seqMovi, afterSteps_cons, applySet_stepPcToMar]
    cases d with
    | pc => exact absurd rfl hd
    | _ => rfl
  case jmpi => rw [exec_eq_afterSteps hform rfl rfl]; rfl

/-- Settles O13: the ALU adds nothing to the register. -/
theorem testEffect : Obligations.TestEffect := by
  unfold Obligations.TestEffect
  intro i r s v hform hv
  have hstep : applySet [.w r, .alu .aPlusB, .alw, .tr] s = (s.latch (addOut v 0#8 false)).endInstr := by
    cases r <;> cases hv <;> rfl
  rw [exec_eq_afterSteps hform rfl (Form.drivesPseudo_eq_false rfl hv), seqOf, seqTst, afterSteps_cons, hstep,
    State.latch, res_addOut_false, flags_addOut_false, sumFlags_zero, BitVec.add_zero]
  rfl

/-- Settles O14: the source drives the bus and the destination latches it. -/
theorem moveEffect : Obligations.MoveEffect := by
  unfold Obligations.MoveEffect
  intro i d r s v hform hv
  have hstep : applySet [.w r, .r d, .tr] s = (s.setReg d v).endInstr := by
    cases d <;> cases r <;> cases hv <;> rfl
  rw [exec_eq_afterSteps hform rfl (Form.drivesPseudo_eq_false rfl hv), seqOf, seqMov, afterSteps_cons, hstep,
    afterSteps_nil]

/-- Settles O15: `HLT` sets the halt and holds the counter, and the step of a halted machine does nothing. -/
theorem haltEffect : Obligations.HaltEffect := by
  unfold Obligations.HaltEffect
  refine ⟨fun i s hform => ?hlt, fun s hops hh => ?halted⟩
  case hlt => rw [exec_eq_afterSteps hform rfl rfl]; rfl
  case halted => simp only [step, hops, hh, Bool.true_or, if_true]

theorem encodeByte_of_form_undef {i : Instr} (h : i.form = some .undef) :
    encodeByte i ∈ [0x12#8, 0x1B#8, 0x24#8, 0x2D#8, 0x36#8] := by
  cases i <;> cases h <;> decide

/-- Settles O16: their one step ends the instruction, and the undefined bytes are those of the five instructions. -/
theorem noOperationEffect : Obligations.NoOperationEffect := by
  unfold Obligations.NoOperationEffect
  refine ⟨fun i s hform => ?effect, fun op => ⟨fun h => ?undefined, fun h => ?mem⟩⟩
  case effect =>
    rcases hform with hform | hform <;>
    · rw [exec_eq_afterSteps hform rfl rfl]
      rfl
  case undefined =>
    obtain ⟨i, hi, rfl⟩ := exists_instr_of_formOf h
    exact encodeByte_of_form_undef hi
  case mem =>
    simp only [List.mem_cons, List.not_mem_nil, or_false] at h
    rcases h with rfl | rfl | rfl | rfl | rfl <;> rfl

/-! ### The LOD group (rules R150 to R161) -/

/-- Settles O17: MAR takes StP, and the register the byte there. -/
theorem peekEffect : Obligations.PeekEffect := by
  unfold Obligations.PeekEffect
  intro i d s hform
  rw [exec_eq_afterSteps hform rfl rfl]
  cases d <;> rfl

/-- Settles O18: the last step's byte goes to the LCD. -/
theorem lcdMemoryEffects : Obligations.LcdMemoryEffects := by
  unfold Obligations.LcdMemoryEffects
  refine ⟨fun i s a hform ha => ?lccMem, fun i s a hform ha => ?lcdPgm, fun i s hform => ?lcdImm⟩
  case lccMem => rw [exec_eq_afterSteps hform rfl rfl, ← ha]; rfl
  case lcdPgm => rw [exec_eq_afterSteps hform rfl rfl, ← ha]; rfl
  case lcdImm => rw [exec_eq_afterSteps hform rfl rfl]; rfl

/-- Settles O19: Acc is kept in the PC while the ALU counts StP up, and comes back as a sum with nothing. -/
theorem retEffect : Obligations.RetEffect := by
  unfold Obligations.RetEffect
  intro i s hform
  have hback : ∀ u : State, applySet [.w .pc, .alu .aPlusB, .alw] u =
      ({ u with acc := u.pc + 0#8, flags := sumFlags u.pc 0#8 } : State).nextStep := fun u => by
    rw [← flags_addOut_false, ← res_addOut_false]
    rfl
  have hpark : applySet [.bwAlu, .r .pc] s = (s.setReg .pc s.acc).nextStep := rfl
  rw [exec_eq_afterSteps hform rfl rfl, seqOf, seqRet, afterSteps_cons, hpark, afterSteps_cons, afterSteps_cons,
    applySet_stackUp, afterSteps_cons, hback, sumFlags_zero, BitVec.add_zero]
  rfl

/-- Settles O20: Acc counts StP up, StP and MAR take it, and the register takes the byte there. -/
theorem popEffect : Obligations.PopEffect := by
  unfold Obligations.PopEffect
  intro i d s hform
  rw [exec_eq_afterSteps hform rfl rfl, seqOf, seqPop, afterSteps_cons, afterSteps_cons, applySet_stackUp,
    afterSteps_cons, applySet_loadData, State.endInstr_setReg]
  rfl

/-- Settles O21: MAR takes the address, and the register the byte there, in program memory through Rc. -/
theorem loadEffects : Obligations.LoadEffects := by
  unfold Obligations.LoadEffects
  refine ⟨fun i d s a hform ha => ?immediate, fun i d r s a hform ha => ?register⟩
  case immediate =>
    rw [exec_eq_afterSteps hform rfl rfl, seqOf, seqLodImm, afterSteps_cons, applySet_stepPcToMar, afterSteps_cons,
      applySet_stepPointer, afterSteps_cons, applySet_loadData, ← ha, State.endInstr_setReg, State.endInstr_setReg]
    rfl
  case register =>
    rw [exec_eq_afterSteps hform rfl (Form.drivesPseudo_eq_false rfl ha), seqOf, seqLod, afterSteps_cons,
      applySet_stepRegToMar ha, afterSteps_cons, applySet_loadToReg, State.endInstr_setReg, State.endInstr_setReg]
    rfl

end Sys2Proof.Machine
end

section
/-! PROOFS. The effects of 43_sto.md and 44_alu.md (rules R180 to R207), from the microsteps' rules. -/

namespace Sys2Proof.Machine

/-! ### The STO group (rules R180 to R188) -/

/-- A register's store to data memory. -/
theorem applySet_storeData {s : State} {r : Reg} {v : Byte} (h : s.reg r = some v) :
    applySet [.w r, .mw, .tr] s = (s.store false s.mar v).endInstr :=
  applySet_storeReg h .pc

/-- Settles O22: the ALU takes the immediate to Acc with a sum of nothing, and Acc is stored. -/
theorem pushImmediateEffect : Obligations.PushImmediateEffect := by
  unfold Obligations.PushImmediateEffect
  intro i s v hform hv
  have hdown : applySet [.bwAlu, .stpw] (applySet stepStackDown s) =
      { s with
        stp := s.stp - 1#8, acc := s.stp - 1#8, flags := sumFlags s.stp 0xFF#8, mt := s.mt + 1#3 + 1#3 } := by
    rw [applySet_stepStackDown, State.latch, res_addOut_false, flags_addOut_false, add_0xFF_eq_sub_one]
    rfl
  have htake : ∀ u : State, applySet [.pgm, .bwMem, .pcc, .alu .aPlusB, .alw] u =
      ({ u with
        pc := u.pc + 1#8, acc := u.load true u.mar + 0#8, flags := sumFlags (u.load true u.mar) 0#8 } : State).nextStep :=
    fun u => by
      rw [← flags_addOut_false, ← res_addOut_false]
      rfl
  rw [exec_eq_afterSteps hform rfl rfl, seqOf, seqPushi, afterSteps_cons, afterSteps_cons, hdown, afterSteps_cons,
    applySet_stepPcToMar, afterSteps_cons, htake, sumFlags_zero, BitVec.add_zero, ← hv]
  rfl

/-- Settles O23: the stack pointer moves down, and the byte at its new place is stored. -/
theorem pushAndCallEffects : Obligations.PushAndCallEffects := by
  unfold Obligations.PushAndCallEffects
  refine ⟨fun i r s v hform hv => ?push, fun i s hform => ?call⟩
  case push =>
    have hreg : (applySet stepAccToStack (applySet stepStackDown s)).reg r = some v := by
      rw [applySet_stackDown, ← hv]
      cases r <;> rfl
    rw [exec_eq_afterSteps hform rfl (Form.drivesPseudo_eq_false rfl hv), seqOf, seqPush, afterSteps_cons,
      afterSteps_cons, afterSteps_cons, applySet_storeData hreg, applySet_stackDown, State.endInstr_store]
    rfl
  case call =>
    rw [exec_eq_afterSteps hform rfl rfl, seqOf, seqCall, afterSteps_cons, afterSteps_cons, applySet_stackDown]
    rfl

/-- With the PC as its source the map has `calli`, not a store of a register (rule R189). -/
theorem ne_pc_of_form_stoi {i : Instr} {r : Reg} (h : i.form = some (.stoi r)) : r ≠ .pc := by
  cases i <;> cases h <;> decide

/-- Settles O24: MAR takes the address, and the byte there the register, in program memory through Rc. -/
theorem storeEffects : Obligations.StoreEffects := by
  unfold Obligations.StoreEffects
  refine ⟨fun i r s a v hform ha hv => ?immediate, fun i d r s a v hform ha hv => ?register⟩
  case immediate =>
    have hreg : (applySet stepPointer (applySet stepPcToMar s)).reg r = some v := by
      have hr := ne_pc_of_form_stoi hform
      rw [← hv]
      cases r with
      | pc => exact absurd rfl hr
      | _ => rfl
    rw [exec_eq_afterSteps hform rfl (Form.drivesPseudo_eq_false rfl hv), seqOf, seqStoi, afterSteps_cons,
      afterSteps_cons, afterSteps_cons, applySet_storeData hreg, applySet_stepPointer, applySet_stepPcToMar, ← ha,
      State.endInstr_store, State.endInstr_store]
    rfl
  case register =>
    have hreg : (s.setMar a).nextStep.reg r = some v := by
      rw [← hv]
      cases r <;> rfl
    rw [exec_eq_afterSteps hform rfl (Form.drivesPseudo_eq_false rfl hv), seqOf, seqSto, afterSteps_cons,
      applySet_stepRegToMar ha, afterSteps_cons, applySet_storeReg hreg, State.endInstr_store, State.endInstr_store]
    rfl

/-! ### The ALU group (rules R200 to R207) -/

section AluSteps
variable {s : State} {r : Reg} {v : Byte}

/-! The ALU step of each mode, with the register on the bus. -/

theorem applySet_increment (h : s.reg r = some v) :
    applySet [.w r, .alu .aPlusB, .alc, .alw] s = (s.latch (addOut v 0#8 true)).nextStep := by
  cases r <;> cases h <;> rfl

theorem applySet_plusRb (h : s.reg r = some v) :
    applySet [.w r, .alb, .alu .aPlusB, .alw] s = (s.latch (addOut v s.rb false)).nextStep := by
  cases r <;> cases h <;> rfl

theorem applySet_minusRb (h : s.reg r = some v) :
    applySet [.w r, .alb, .alu .aMinusB, .alw, .alc] s = (s.latch (addOut v (s.rb ^^^ 0xFF#8) true)).nextStep := by
  cases r <;> cases h <;> rfl

theorem applySet_rbMinus (h : s.reg r = some v) :
    applySet [.w r, .alb, .alu .bMinusA, .alw, .alc] s = (s.latch (addOut s.rb (v ^^^ 0xFF#8) true)).nextStep := by
  cases r <;> cases h <;> rfl

theorem applySet_compareRb (h : s.reg r = some v) :
    applySet [.w r, .alb, .alc, .alu .aMinusB, .alw, .tr] s =
      (s.latch (addOut v (s.rb ^^^ 0xFF#8) true)).endInstr := by
  cases r <;> cases h <;> rfl

theorem applySet_rbCompare (h : s.reg r = some v) :
    applySet [.w r, .alb, .alc, .alu .bMinusA, .alw, .tr] s =
      (s.latch (addOut s.rb (v ^^^ 0xFF#8) true)).endInstr := by
  cases r <;> cases h <;> rfl

theorem applySet_lccReg (h : s.reg r = some v) :
    applySet [.lcdCommand, .lcd, .w r, .tr] s = (s.setLcd (s.lcd.sendCommand v)).endInstr := by
  cases r <;> cases h <;> rfl

theorem applySet_lcdReg (h : s.reg r = some v) :
    applySet [.lcdData, .lcd, .w r, .tr] s = (s.setLcd (s.lcd.writeByte v)).endInstr := by
  cases r <;> cases h <;> rfl

end AluSteps

/-- A result in Acc and the flags goes on to a register. -/
theorem applySet_stepAccToReg_latch (s : State) (out : AluOut) (r : Reg) :
    applySet (stepAccToReg r) (s.latch out).nextStep =
      ({ s with acc := out.res, flags := out.flags, mt := 0#3 } : State).setReg r out.res := by
  rw [applySet_stepAccToReg, State.endInstr_setReg]
  rfl

/-- Settles O25: the sum of the register and the carry-in. -/
theorem incrementEffect : Obligations.IncrementEffect := by
  unfold Obligations.IncrementEffect
  intro i r s v hform hv
  rw [exec_eq_afterSteps hform rfl (Form.drivesPseudo_eq_false rfl hv), seqOf, seqInc, afterSteps_cons,
    applySet_increment hv, afterSteps_cons, applySet_stepAccToReg_latch, res_addOut_zero_true, flags_addOut_zero_true,
    sumFlags_one, afterSteps_nil]

/-- Settles O26: a sum without carry-in, and two differences. -/
theorem addSubtractEffects : Obligations.AddSubtractEffects := by
  unfold Obligations.AddSubtractEffects
  refine fun i r s v hv => ⟨fun hform => ?add, fun hform => ?sub, fun hform => ?rsb⟩
  case add =>
    rw [exec_eq_afterSteps hform rfl (Form.drivesPseudo_eq_false rfl hv), seqOf, seqAdd, afterSteps_cons,
      applySet_plusRb hv, afterSteps_cons, applySet_stepAccToReg_latch, res_addOut_false, flags_addOut_false,
      afterSteps_nil]
  case sub =>
    rw [exec_eq_afterSteps hform rfl (Form.drivesPseudo_eq_false rfl hv), seqOf, seqSub, afterSteps_cons,
      applySet_minusRb hv, afterSteps_cons, applySet_stepAccToReg_latch, res_addOut_not_true, flags_addOut_not_true,
      afterSteps_nil]
  case rsb =>
    rw [exec_eq_afterSteps hform rfl (Form.drivesPseudo_eq_false rfl hv), seqOf, seqRsb, afterSteps_cons,
      applySet_rbMinus hv, afterSteps_cons, applySet_stepAccToReg_latch, res_addOut_not_true, flags_addOut_not_true,
      afterSteps_nil]

/-- Settles O27: the two differences, and no register takes them. -/
theorem compareEffects : Obligations.CompareEffects := by
  unfold Obligations.CompareEffects
  refine fun i r s v hv => ⟨fun hform => ?regRb, fun hform => ?rbReg⟩
  case regRb =>
    rw [exec_eq_afterSteps hform rfl (Form.drivesPseudo_eq_false rfl hv), seqOf, seqCmpRegRb, afterSteps_cons,
      applySet_compareRb hv, State.latch, res_addOut_not_true, flags_addOut_not_true]
    rfl
  case rbReg =>
    rw [exec_eq_afterSteps hform rfl (Form.drivesPseudo_eq_false rfl hv), seqOf, seqCmpRbReg, afterSteps_cons,
      applySet_rbCompare hv, State.latch, res_addOut_not_true, flags_addOut_not_true]
    rfl

/-- Settles O28: the one step strobes the LCD with the register on the bus. -/
theorem lcdRegisterEffects : Obligations.LcdRegisterEffects := by
  unfold Obligations.LcdRegisterEffects
  refine fun i r s v hv => ⟨fun hform => ?lcc, fun hform => ?lcd⟩
  case lcc =>
    rw [exec_eq_afterSteps hform rfl (Form.drivesPseudo_eq_false rfl hv), seqOf, seqLccReg, afterSteps_cons,
      applySet_lccReg hv, afterSteps_nil]
  case lcd =>
    rw [exec_eq_afterSteps hform rfl (Form.drivesPseudo_eq_false rfl hv), seqOf, seqLcdReg, afterSteps_cons,
      applySet_lcdReg hv, afterSteps_nil]

end Sys2Proof.Machine
end

section
/-! PROOFS. The frames of 41_mov.md to 46_datapath_harness.md (rules R264, R265, R268): what no step of a sequence asks for
is after the sequence as before it. An opcode that answers a next state has done the steps of its sequence, or of its
parameter where that keeps the opcode, so each frame is one about a list of steps. -/

namespace Sys2Proof.Machine

/-! ### What the steps of a sequence leave alone -/

section AfterSteps
variable {q : List SigSet} (s : State)

theorem reg_afterSteps {r : Reg} (hpc : r ≠ .pc) (h : ∀ S ∈ q, .r r ∉ S ∧ (r = .stp → .stpw ∉ S)) :
    (afterSteps q s).reg r = s.reg r :=
  afterSteps_keeps (p := fun t => t.reg r = s.reg r) q (fun S hS t ht => by
    obtain ⟨hr, hstp⟩ := h S hS
    rw [reg_applySet_of_not_mem t hr (fun h => absurd h hpc) hstp, ht]) s rfl

theorem acc_flags_afterSteps (h : ∀ S ∈ q, .alw ∉ S) :
    (afterSteps q s).acc = s.acc ∧ (afterSteps q s).flags = s.flags :=
  afterSteps_keeps (p := fun t => t.acc = s.acc ∧ t.flags = s.flags) q (fun S hS t ht => by
    rw [acc_applySet_of_not_mem t (h S hS), flags_applySet_of_not_mem_alw (h S hS), ht.1, ht.2]
    exact ⟨rfl, rfl⟩) s ⟨rfl, rfl⟩

theorem memory_afterSteps {pgm : Bool} (h : ∀ S ∈ q, .mw ∈ S → S.contains .pgm ≠ pgm) :
    (afterSteps q s).memory pgm = s.memory pgm :=
  afterSteps_keeps (p := fun t => t.memory pgm = s.memory pgm) q
    (fun S hS t ht => (memory_applySet_of_no_store t (h S hS)).trans ht) s rfl

theorem ir_afterSteps (h : ∀ S ∈ q, .irw ∉ S) : (afterSteps q s).ir = s.ir :=
  afterSteps_keeps (p := fun t => t.ir = s.ir) q (fun S hS t ht => (ir_applySet_of_not_mem t (h S hS)).trans ht) s rfl

theorem lcd_afterSteps (h : ∀ S ∈ q, .lcd ∉ S) : (afterSteps q s).lcd = s.lcd :=
  afterSteps_keeps (p := fun t => t.lcd = s.lcd) q (fun S hS t ht => (lcd_applySet_of_not_mem t (h S hS)).trans ht) s rfl

theorem halted_afterSteps (h : ∀ S ∈ q, .hlt ∉ S) : (afterSteps q s).halted = s.halted :=
  afterSteps_keeps (p := fun t => t.halted = s.halted) q (fun S hS t ht => by
    rw [halted_applySet, ht, List.contains_eq_mem, decide_eq_false (h S hS), Bool.false_or]) s rfl

end AfterSteps

/-- An opcode of an OPEN form whose parameter keeps the opcode has done the parameter's steps. -/
theorem exec_next_of_openSeq {i : Instr} {f : Form} {s t : State} {q : List SigSet} (hform : i.form = some f)
    (hq : s.openSeq f = some q) (hkeep : keepsOpcode f q s = true) (h : exec i s = .next t) : t = afterSteps q s :=
  runOpen_next_eq_afterSteps hq hkeep (exec_eq_runOpen hform s ▸ h)

/-! ### Registers -/

@[simp] theorem mem_pgmIfRc (r : Reg) (g : Signal) : g ∈ pgmIfRc r ↔ r = .rc ∧ g = .pgm := by
  unfold pgmIfRc
  split <;> simp [*]

/-- A sequence that the spec gives latches the PC and its form's destinations, and no other register. -/
theorem latches_seqOf {form : Form} (ho : form.isOpen = false) {r : Reg} (hpc : r ≠ .pc) (hr : r ∉ form.destinations)
    (P : OpenSeqs) (f : Flags) : ∀ S ∈ seqOf P form f, .r r ∉ S ∧ (r = .stp → .stpw ∉ S) := by
  cases form with
  | lccPgm | lccImm | calli | stoiImm => cases ho
  | condJump c =>
    rw [seqOf, seqCondJump]
    split <;> simp [stepPcToMar, hpc]
  | _ =>
    simp only [Form.destinations, List.mem_cons, List.not_mem_nil, or_false, not_or] at hr
    simp [seqOf, seqClra, seqMovi, seqJmpi, seqJmz, seqTst, seqMov, seqHlt, seqUndef, seqNop, seqPeek, seqLccMem,
      seqLcdPgm, seqRet, seqPop, seqLodImm, seqLcdImm, seqClr, seqLod, seqPushi, seqCall, seqPush, seqStoi, seqSto, seqInc,
      seqAdd, seqSub, seqRsb, seqCmpRegRb, seqCmpRbReg, seqLccReg, seqLcdReg, stepPcToMar, stepPointer, stepRegToMar,
      stepStackDown, stepStackUp, stepAccToStack, stepZero, stepAccToReg, hpc, hr]

/-- Settles O32: what a step does not latch is as before. -/
theorem frameRegisters : Obligations.FrameRegisters := by
  unfold Obligations.FrameRegisters
  refine fun i f s t r hform h hpc => ⟨fun ho hr => ?given, fun q hq hkeep hno => ?param⟩
  case given =>
    obtain ⟨-, rfl⟩ := exec_next_of_not_open hform ho h
    exact reg_afterSteps s hpc (latches_seqOf ho hpc hr _ _)
  case param =>
    rw [exec_next_of_openSeq hform hq hkeep h]
    exact reg_afterSteps s hpc hno

/-! ### Acc and the flags -/

/-- Settles O33: no step of the form has `_ALW`; and `ret` brings Acc back. -/
theorem frameAccFlags : Obligations.FrameAccFlags := by
  unfold Obligations.FrameAccFlags
  refine fun i f s t hform h => ⟨fun hf => ?given, ?ret, fun q hq hkeep hno => ?param⟩
  case given =>
    have ho : f.isOpen = false := by
      cases f <;> first | rfl | cases hf
    obtain ⟨-, rfl⟩ := exec_next_of_not_open hform ho h
    exact acc_flags_afterSteps s (seqWithout_iff.1 (seqWithout_seqOf ho (g := .alw) hf _ _))
  case ret =>
    rintro rfl
    rw [retEffect i s hform] at h
    cases h
    rfl
  case param =>
    rw [exec_next_of_openSeq hform hq hkeep h]
    exact acc_flags_afterSteps s hno

/-! ### The memories -/

/-- A store changes no byte but its own. -/
theorem State.load_store_of_ne (s : State) {p pgm : Bool} {a b : Byte} (v : Byte) (h : some (p, a) ≠ some (pgm, b)) :
    (s.store p a v).load pgm b = s.load pgm b := by
  by_cases hp : pgm = p
  · subst hp
    exact s.load_store_other pgm pgm a b v fun hb => h (by rw [hb])
  · exact s.load_store_memory p pgm a b v hp

/-- The operand of a form that does not drive a pseudo register reads as a byte. -/
theorem exists_reg_eq_some {f : Form} {r : Reg} (hf : Form.plainSource f = some r)
    (hreal : Form.drivesPseudo f = false) (s : State) : ∃ v, s.reg r = some v := by
  rw [← Option.ne_none_iff_exists', ne_eq, State.reg_eq_none_iff]
  simpa [Form.drivesPseudo, hf] using hreal

/-- A store through a register goes through a real one. -/
theorem exists_reg_eq_some_of_form_sto {i : Instr} {d r : Reg} (h : i.form = some (.sto d r)) (s : State) :
    ∃ a, s.reg d = some a := by
  have hd : ¬(d = .stpi ∨ d = .imm) := by
    cases i <;> cases h <;> decide
  rwa [← Option.ne_none_iff_exists', ne_eq, State.reg_eq_none_iff]

/-- An opcode whose sequence the spec gives changes no byte but the one that its form stores to. -/
theorem load_exec_of_not_open {i : Instr} {f : Form} (hform : i.form = some f) (ho : f.isOpen = false) {s t : State}
    (h : exec i s = .next t) {pgm : Bool} {b : Byte} (hb : f.storesAt s ≠ some (pgm, b)) :
    t.load pgm b = s.load pgm b := by
  obtain ⟨hreal, ht⟩ := exec_next_of_not_open hform ho h
  cases hstore : Form.storesMemory f with
  | false =>
    have hno := seqWithout_iff.1 (seqWithout_seqOf ho (g := .mw) hstore s.romSeqs s.flags)
    rw [ht, State.load, memory_afterSteps s fun S hS hmw => absurd hmw (hno S hS)]
    rfl
  | true =>
    cases f with
    | pushi =>
      rw [pushImmediateEffect i s _ hform rfl] at h
      cases h
      exact State.load_store_of_ne _ _ hb
    | call =>
      rw [pushAndCallEffects.2 i s hform] at h
      cases h
      exact State.load_store_of_ne _ _ hb
    | push r =>
      obtain ⟨v, hv⟩ := exists_reg_eq_some rfl hreal (s.setReg .stp (s.stp - 1#8))
      rw [pushAndCallEffects.1 i r s v hform hv] at h
      cases h
      exact State.load_store_of_ne _ _ hb
    | stoi r =>
      obtain ⟨v, hv⟩ := exists_reg_eq_some rfl hreal s
      rw [storeEffects.1 i r s _ v hform rfl hv] at h
      cases h
      rw [State.load_endInstr, State.load_store_of_ne _ _ hb, State.load_setReg, State.load_setMar]
    | sto d r =>
      obtain ⟨v, hv⟩ := exists_reg_eq_some rfl hreal s
      obtain ⟨a, ha⟩ := exists_reg_eq_some_of_form_sto hform s
      rw [storeEffects.2 i d r s a v hform ha hv] at h
      cases h
      rw [Form.storesAt, ha] at hb
      rw [State.load_endInstr, State.load_store_of_ne _ _ hb, State.load_setMar]
    | lccPgm | lccImm | calli | stoiImm => cases ho
    | _ => cases hstore

/-- Settles O34: the stores are those of the effects, and a memory that no step stores to is as before. -/
theorem frameMemory : Obligations.FrameMemory := by
  unfold Obligations.FrameMemory
  refine fun i f s t pgm b hform h => ⟨fun ho => load_exec_of_not_open hform ho h, fun q hq hkeep hno => ?param⟩
  case param =>
    rw [exec_next_of_openSeq hform hq hkeep h, State.load, memory_afterSteps s hno]
    rfl

/-! ### The rest of the state -/

/-- No microstep writes the waiting moves, the parameters or the mark of a run. -/
theorem exec_keeps_own_fields {i : Instr} {f : Form} (hform : i.form = some f) {s t : State} (h : exec i s = .next t) :
    t.ops = s.ops ∧ t.openSeqs = s.openSeqs ∧ t.running = s.running := by
  refine exec_keeps (p := fun u => u.ops = s.ops ∧ u.openSeqs = s.openSeqs ∧ u.running = s.running) ?_ hform
    ⟨rfl, rfl, rfl⟩ h
  intro S u v hu hc
  obtain ⟨-, rfl⟩ := (commit_next_iff S u v).1 hc
  exact hu

/-- The shape of a form that does not strobe the LCD keeps its parameter from it. -/
theorem seqWithout_lcd_of_openSeq {s : State} {f : Form} {q : List SigSet} (hf : f.strobesLcd = false)
    (hq : s.openSeq f = some q) : seqWithout .lcd q = true := by
  cases f with
  | calli | stoiImm =>
    obtain ⟨-, hshape⟩ := (admitted_eq_some_iff _ _ _).1 hq
    simp only [calliShape, stoiShape, Bool.and_eq_true] at hshape
    simp only [hshape]
  | lccImm | lccPgm => cases hf
  | _ => cases hq

/-- An opcode but `hlt` ends its instruction and halts nothing. -/
theorem exec_ends {i : Instr} {f : Form} (hform : i.form = some f) (hf : f ≠ .hlt) {s t : State}
    (h : exec i s = .next t) : t.halted = s.halted ∧ t.mt = 0#3 := by
  cases ho : f.isOpen with
  | true =>
    rw [exec_eq_runOpen hform] at h
    obtain ⟨hmt, hhalt⟩ := runOpen_ends ho h
    exact ⟨hhalt, hmt⟩
  | false =>
    obtain ⟨-, rfl⟩ := exec_next_of_not_open hform ho h
    have hhlt := seqWithout_iff.1 (seqWithout_seqOf ho (g := .hlt) (decide_eq_false hf) s.romSeqs s.flags)
    exact ⟨halted_afterSteps s hhlt, afterSteps_mt (seqShape_seqOf ho hf _ _) s⟩

/-- A command changes neither the sizes nor the pixels. -/
theorem Lcd.sendCommand_keeps (l : Lcd) (b : Byte) :
    (l.sendCommand b).width = l.width ∧ (l.sendCommand b).height = l.height ∧ (l.sendCommand b).pix = l.pix := by
  unfold Lcd.sendCommand
  split_ifs <;> exact ⟨rfl, rfl, rfl⟩

/-- Settles O35: no step asks for the fields that stay. -/
theorem frameRest : Obligations.FrameRest := by
  unfold Obligations.FrameRest
  refine ⟨fun i f s t hform h => ?opcode, fun i s t hspace h => ?command⟩
  case opcode =>
    obtain ⟨hops, hseqs, hrun⟩ := exec_keeps_own_fields hform h
    refine ⟨hops, hseqs, hrun, fun ho => ?ir, fun q hq hno => ?irParam, fun hf hkeep => ?lcd,
      fun hf => exec_ends hform hf h⟩
    case ir =>
      obtain ⟨-, rfl⟩ := exec_next_of_not_open hform ho h
      exact ir_afterSteps s (seqWithout_iff.1 (seqWithout_seqOf ho rfl _ _))
    case irParam =>
      rw [exec_next_of_openSeq hform hq (keepsOpcode_of_without (seqWithout_iff.2 hno) f s) h]
      exact ir_afterSteps s hno
    case lcd =>
      cases ho : f.isOpen with
      | true =>
        rcases lacks_or_openSeq s ho with hl | ⟨q, hq⟩
        · rw [exec_eq_runOpen hform, runOpen_lacks hl] at h
          cases h
        · rw [exec_next_of_openSeq hform hq (hkeep q hq) h]
          exact lcd_afterSteps s (seqWithout_iff.1 (seqWithout_lcd_of_openSeq hf hq))
      | false =>
        obtain ⟨-, rfl⟩ := exec_next_of_not_open hform ho h
        exact lcd_afterSteps s (seqWithout_iff.1 (seqWithout_seqOf ho (g := .lcd) hf _ _))
  case command =>
    rw [exec_of_lcdCommand hspace] at h
    cases h
    exact ⟨rfl, Lcd.sendCommand_keeps _ _⟩

end Sys2Proof.Machine
end

section
/-! PROOFS. The effects of the OPEN opcodes (rules R153, R157, R183, R184). A parameter's shape has one step of its kind, the
LCD's strobe or the store to program memory; no other step touches what that one writes, so the effect is that step's, from
the state that the steps before it lead to. -/

namespace Sys2Proof.Machine

/-! ### The one step of its kind -/

/-- A sequence with one step of a kind, split at that step. -/
theorem exactlyOne_split {p : SigSet → Bool} {q : List SigSet} (h : exactlyOne p q = true) :
    ∃ (before : List SigSet) (S : SigSet) (after : List SigSet), q = before ++ S :: after ∧ p S = true ∧
      (∀ S' ∈ before, p S' = false) ∧ ∀ S' ∈ after, p S' = false := by
  rw [exactlyOne, beq_iff_eq] at h
  induction q with
  | nil => cases h
  | cons S rest ih =>
    cases hS : p S with
    | true =>
      rw [List.countP_cons_of_pos hS, Nat.add_eq_right, List.countP_eq_zero] at h
      exact ⟨[], S, rest, rfl, hS, List.forall_mem_nil _, fun S' hS' => by simpa using h S' hS'⟩
    | false =>
      rw [List.countP_cons_of_neg (by simp [hS])] at h
      obtain ⟨before, S', after, rfl, hp, hbefore, hafter⟩ := ih h
      exact ⟨S :: before, S', after, rfl, hp, List.forall_mem_cons.2 ⟨hS, hbefore⟩, hafter⟩

/-- Memory drives the bus where it stands alone. -/
theorem busValue_of_bwMem {S : SigSet} (h : .bwMem ∈ S) (hone : SigSet.oneDriver S = true) (s : State) :
    busValue S s = some (s.load (S.contains .pgm) s.mar) := by
  have hsome : (S.find? Sys2Proof.Signal.isDriver).isSome := List.find?_isSome.2 ⟨_, h, rfl⟩
  obtain ⟨g, hg⟩ := Option.isSome_iff_exists.1 hsome
  obtain rfl : g = .bwMem :=
    (SigSet.atMostOne_iff _ S).1 hone _ (List.mem_of_find?_eq_some hg) _ h (List.find?_some hg) rfl
  rw [busValue, hg]

/-- Without the data mode, a strobe without a fault is a command. -/
theorem lcdCommand_of_lcd {S : SigSet} (hf : faultOf S = none) (hdata : .lcdData ∉ S) (h : .lcd ∈ S) :
    .lcdCommand ∈ S := by
  obtain ⟨-, -, -, -, -, -, hmode⟩ := (faultOf_eq_none_iff S).1 hf
  simpa [hdata] using hmode h

/-! ### An OPEN opcode where its fetch ends -/

section AfterFetch
variable {i : Instr} {f : Form} {op : Byte} {s : State} {q : List SigSet}

/-- An OPEN opcode with a parameter that has an effect has it, and ends. -/
theorem exec_of_hasEffect {effect : State → State → Prop} (hform : i.form = some f) (ho : f.isOpen = true)
    (hq : s.openSeq f = some q) (heffect : hasEffect f op effect q) (hs : afterFetch op s) :
    ∃ t, exec i s = .next t ∧ t.mt = 0#3 ∧ effect s t := by
  obtain ⟨t, hrun, ht⟩ := heffect s hs hq
  exact ⟨t, (exec_eq_runOpen hform s).trans hrun, (runOpen_ends ho hrun).1, ht⟩

/-- The microsteps up to a step of the parameter are the steps before it. -/
theorem runFor_before {before after : List SigSet} (hq : s.openSeq f = some (before ++ after))
    (hfaultless : seqFaultless (before ++ after) = true) (hkeep : keepsOpcode f (before ++ after) s = true)
    (hf : formOf op = f) (hs : afterFetch op s) : runFor before.length s = .next (afterSteps before s) := by
  obtain ⟨hmt, hir, -, -, hh⟩ := hs
  have hrun := runFor_eq_afterSteps hfaultless before.length 0 s hq (hir ▸ hf) (by rw [hmt]; rfl) hh hkeep
    (by rw [List.length_append]; omega)
  rwa [List.drop_zero, List.take_left' rfl] at hrun

/-- A faultless parameter that keeps the opcode is done step by step, and the instruction ends. -/
theorem exec_of_openSeq (hform : i.form = some f) (hq : s.openSeq f = some q) (hfaultless : seqFaultless q = true)
    (hkeep : keepsOpcode f q s = true) : exec i s = .next (afterSteps q s) ∧ (afterSteps q s).mt = 0#3 :=
  ⟨(exec_eq_runOpen hform s).trans (runOpen_eq_afterSteps hq hfaultless hkeep), afterSteps_mt (openSeq_spec hq).1 s⟩

end AfterFetch

/-! ### `lcc imm` and `lcc pgm` (rules R153, R157) -/

/-- What the shape of `SEQ_LCC_PGM` says of its steps: one strobes the LCD with a program byte as a command, and no other
strobes it without a fault. -/
theorem lccPgmShape_split {q : List SigSet} (h : lccPgmShape q = true) (hfaultless : seqFaultless q = true) :
    ∃ (before : List SigSet) (S : SigSet) (after : List SigSet), q = before ++ S :: after ∧
      (.lcd ∈ S ∧ .lcdCommand ∈ S ∧ .pgm ∈ S ∧ .bwMem ∈ S) ∧ (∀ S' ∈ before, .lcd ∉ S') ∧ ∀ S' ∈ after, .lcd ∉ S' := by
  simp only [lccPgmShape, Bool.and_eq_true] at h
  obtain ⟨⟨⟨⟨-, hone⟩, hpgm⟩, hdata⟩, -⟩ := h
  obtain ⟨before, S, after, rfl, hS, hbefore, hafter⟩ := exactlyOne_split hone
  have hno : ∀ S' ∈ before ++ S :: after, (S'.contains .lcd && S'.contains .lcdCommand) = false → .lcd ∉ S' := by
    intro S' hmem hS' hlcd
    have hc := lcdCommand_of_lcd ((seqFaultless_iff _).1 hfaultless S' hmem) (seqWithout_iff.1 hdata S' hmem) hlcd
    simp [hlcd, hc] at hS'
  have hS' := List.all_eq_true.1 hpgm S (by simp)
  rw [hS, Bool.not_true, Bool.false_or] at hS'
  simp only [Bool.and_eq_true, List.contains_iff_mem] at hS hS'
  exact ⟨before, S, after, rfl, ⟨hS.1, hS.2, hS'⟩, fun T hT => hno T (by simp [hT]) (hbefore T hT),
    fun T hT => hno T (by simp [hT]) (hafter T hT)⟩

/-- Settles O29: the strobe is one step of the parameter, and the command is the byte at MAR that the steps before it lead
to. -/
theorem openLcdEffects : Obligations.OpenLcdEffects := by
  unfold Obligations.OpenLcdEffects
  refine ⟨fun i s q hform hq hadm hs => ?imm, fun i s q hform hq hadm hs => ?pgm,
    fun i s q hform hq hshape hfaultless hkeep hs => ?strobe⟩
  case imm => exact exec_of_hasEffect hform rfl ((admitted_eq_some_iff _ _ _).2 ⟨hq, hadm.1⟩) hadm.2 hs
  case pgm => exact exec_of_hasEffect hform rfl ((admitted_eq_some_iff _ _ _).2 ⟨hq, hadm.1⟩) hadm.2 hs
  case strobe =>
    have hopen : s.openSeq .lccPgm = some q := (admitted_eq_some_iff _ _ _).2 ⟨hq, hshape⟩
    obtain ⟨hexec, hmt⟩ := exec_of_openSeq hform hopen hfaultless hkeep
    obtain ⟨before, S, after, rfl, ⟨hlcd, hc, hpgm, hmem⟩, hbefore, hafter⟩ := lccPgmShape_split hshape hfaultless
    have hS : S ∈ before ++ S :: after := by simp
    have hf := (seqFaultless_iff _).1 hfaultless S hS
    obtain ⟨-, -, hone, -⟩ := (faultOf_eq_none_iff S).1 hf
    have hbus := busValue_of_bwMem hmem hone (afterSteps before s)
    rw [List.contains_iff_mem.2 hpgm] at hbus
    refine ⟨before.length, S, afterSteps before s, _, by simp, hlcd, hc, hpgm,
      runFor_before hopen hfaultless hkeep rfl hs, hexec, hmt, ?lcd, fun hno => ⟨?byte, ?pmem, ?dmem⟩⟩
    case lcd =>
      rw [afterSteps_append, afterSteps_cons, lcd_afterSteps _ hafter, lcd_applySet_of_lcdCommand hf hbus hlcd hc,
        lcd_afterSteps _ hbefore]
    case byte =>
      rw [State.load, memory_afterSteps s fun S' hS' hmw => absurd hmw (hno S' (by simp [hS']))]
      rfl
    case pmem => exact memory_afterSteps s (pgm := true) fun S' hS' hmw => absurd hmw (hno S' hS')
    case dmem => exact memory_afterSteps s (pgm := false) fun S' hS' hmw => absurd hmw (hno S' hS')

/-! ### `calli` and `stoi Imm, Imm` (rules R183, R184) -/

/-- What the shape of `SEQ_STOI` says of its steps: one stores to program memory, and no other does. -/
theorem stoiShape_split {q : List SigSet} (h : stoiShape q = true) :
    ∃ (before : List SigSet) (S : SigSet) (after : List SigSet), q = before ++ S :: after ∧
      (.mw ∈ S ∧ .pgm ∈ S) ∧ (∀ S' ∈ before, .mw ∈ S' → S'.contains .pgm ≠ true) ∧
        ∀ S' ∈ after, .mw ∈ S' → S'.contains .pgm ≠ true := by
  simp only [stoiShape, Bool.and_eq_true] at h
  obtain ⟨⟨⟨-, hone⟩, -⟩, -⟩ := h
  obtain ⟨before, S, after, rfl, hS, hbefore, hafter⟩ := exactlyOne_split hone
  have hno : ∀ S' : SigSet, (S'.contains .mw && S'.contains .pgm) = false → .mw ∈ S' → S'.contains .pgm ≠ true := by
    intro S' hS' hmw
    rw [List.contains_iff_mem.2 hmw, Bool.true_and] at hS'
    exact Bool.eq_false_iff.1 hS'
  rw [Bool.and_eq_true, List.contains_iff_mem, List.contains_iff_mem] at hS
  exact ⟨before, S, after, rfl, hS, fun T hT => hno T (hbefore T hT), fun T hT => hno T (hafter T hT)⟩

/-- The five steps of `stoiFromAcc`, where Acc holds the address of the value byte. -/
theorem stoiEffect_afterSteps_stoiFromAcc {s : State} (h : s.acc = s.pc + 1#8) :
    stoiEffect s (afterSteps stoiFromAcc s) := by
  have hsteps : afterSteps stoiFromAcc s =
      { s with
        pc := s.pc + 1#8 + 1#8, acc := (addOut (s.load true s.acc) 0#8 false).res, mar := s.load true s.pc
        flags := (addOut (s.load true s.acc) 0#8 false).flags, mt := 0#3
        pmem := s.pmem.write (s.load true s.pc).toNat (addOut (s.load true s.acc) 0#8 false).res } := rfl
  have hpc : s.pc + 2#8 = s.pc + 1#8 + 1#8 := by bv_omega
  rw [stoiEffect, State.agreeBeyondOpen, hsteps, hpc, res_addOut_false, BitVec.add_zero, h]
  rfl

/-- Settles O30: the store to program memory is one step of the parameter, at the MAR that the steps before it lead to. -/
theorem openStoreEffects : Obligations.OpenStoreEffects := by
  unfold Obligations.OpenStoreEffects
  refine ⟨fun i s q next hform hq hadm hs => ?calli, fun i s q hform hq hshape hfaultless hkeep hs => ?store,
    fun i s hform hq hacc => ?fromAcc⟩
  case calli => exact exec_of_hasEffect hform rfl ((admitted_eq_some_iff _ _ _).2 ⟨hq, hadm.1⟩) hadm.2 hs
  case store =>
    have hopen : s.openSeq .stoiImm = some q := (admitted_eq_some_iff _ _ _).2 ⟨hq, hshape⟩
    obtain ⟨hexec, hmt⟩ := exec_of_openSeq hform hopen hfaultless hkeep
    have hlcd := lcd_afterSteps s (seqWithout_iff.1 (seqWithout_lcd_of_openSeq rfl hopen))
    obtain ⟨before, S, after, rfl, ⟨hmw, hpgm⟩, hbefore, hafter⟩ := stoiShape_split hshape
    have hf := (seqFaultless_iff _).1 hfaultless S (by simp)
    obtain ⟨hpseudo, -, -, hdriver, -⟩ := (faultOf_eq_none_iff S).1 hf
    obtain ⟨v, hv⟩ :=
      exists_busValue_eq_some (hdriver (List.any_eq_true.2 ⟨_, hmw, rfl⟩)) hpseudo (afterSteps before s)
    have hmem : (afterSteps (before ++ S :: after) s).memory true =
        (s.memory true).write (afterSteps before s).mar.toNat v := by
      have hstore := memory_applySet_of_mem hv hmw
      rw [List.contains_iff_mem.2 hpgm] at hstore
      rw [afterSteps_append, afterSteps_cons, memory_afterSteps _ hafter, hstore, memory_afterSteps _ hbefore]
    refine ⟨before.length, S, v, afterSteps before s, _, by simp, hmw, hpgm,
      runFor_before hopen hfaultless hkeep rfl hs, hv, hexec, hmt, hlcd, ?same, fun a ha => ?other⟩
    case same => rw [State.load, hmem, Memory.read_write_same]
    case other =>
      rw [State.load, hmem, Memory.read_write_other _ _ _ _ fun h => ha (BitVec.eq_of_toNat_eq h)]
      rfl
  case fromAcc =>
    have hopen : s.openSeq .stoiImm = some stoiFromAcc := (admitted_eq_some_iff _ _ _).2 ⟨hq, by decide⟩
    obtain ⟨hexec, hmt⟩ := exec_of_openSeq hform hopen (by decide) (keepsOpcode_of_without (by decide) _ s)
    exact ⟨_, hexec, hmt, stoiEffect_afterSteps_stoiFromAcc hacc⟩

end Sys2Proof.Machine
end

section
/-! PROOFS. The control word of 30_encoding.md (rules R82 to R87). A bit of the word is the OR of that bit of the members'
masks; an admissible layout gives each bit one owner, so that a bit or a field of the word shows the member that owns it. -/

namespace Sys2Proof.Machine

/-! ### The bits of a mask -/

theorem getLsbD_bitMask {p : Nat} (hp : p < 32) (x : Nat) : (bitMask p).getLsbD x = decide (x = p) := by
  rw [bitMask, BitVec.getLsbD_shiftLeft, BitVec.getLsbD_one]
  by_cases hx : x = p
  · subst hx
    simp [hp]
  · have : ¬(x < 32 ∧ ¬x < p ∧ x - p = 0) := by omega
    simpa [hx] using this

theorem eq_of_getLsbD_bitMask {p x : Nat} (h : (bitMask p).getLsbD x = true) : x = p := by
  rw [bitMask, BitVec.getLsbD_shiftLeft, BitVec.getLsbD_one] at h
  simp only [Bool.and_eq_true, decide_eq_true_eq, Bool.not_eq_true', decide_eq_false_iff_not] at h
  omega

theorem getLsbD_fieldMask {offset : Nat} (c : BitVec 3) {j : Nat} (hj : offset + j < 32) :
    (fieldMask c offset).getLsbD (offset + j) = c.getLsbD j := by
  have hlt : ¬offset + j < offset := by omega
  rw [fieldMask, BitVec.getLsbD_shiftLeft, Nat.add_sub_cancel_left, BitVec.getLsbD_setWidth]
  simp only [hj, hlt, decide_true, decide_false, Bool.not_false, Bool.true_and, Bool.and_eq_right_iff_imp,
    decide_eq_true_eq]
  omega

theorem mem_fieldBits_iff (offset x : Nat) : x ∈ fieldBits offset ↔ ∃ j < 3, x = offset + j := by
  simp only [fieldBits, List.mem_cons, List.not_mem_nil, or_false]
  constructor
  · rintro (h | h | h)
    · exact ⟨0, by omega, h⟩
    · exact ⟨1, by omega, h⟩
    · exact ⟨2, by omega, h⟩
  · rintro ⟨j, hj, rfl⟩
    omega

/-- A field's mask has its bits in the field. -/
theorem mem_fieldBits_of_getLsbD {c : BitVec 3} {offset x : Nat} (h : (fieldMask c offset).getLsbD x = true) :
    x ∈ fieldBits offset := by
  rw [fieldMask, BitVec.getLsbD_shiftLeft, BitVec.getLsbD_setWidth] at h
  simp only [Bool.and_eq_true, decide_eq_true_eq, Bool.not_eq_true', decide_eq_false_iff_not] at h
  obtain ⟨⟨-, hle⟩, -, hc⟩ := h
  have hlt : x - offset < 3 := BitVec.lt_of_getLsbD hc
  exact (mem_fieldBits_iff offset x).2 ⟨x - offset, hlt, by omega⟩

/-! ### An admissible layout (rules R85, R86) -/

/-- The signals with a bit of their own, in the order of `Layout.bits`. -/
def bitSignals : List Signal :=
  [.pgm, .maw, .mw, .irw, .alw, .pcc, .alc, .alb, .lcd, .lcdCommand, .lcdData, .hlt, .tr, .stpw]

theorem bits_eq_map (L : Layout) : L.bits = bitSignals.map fun g => (bitOf L g).getD 0 := rfl

theorem mem_bitSignals {L : Layout} {g : Signal} {p : Nat} (h : bitOf L g = some p) : g ∈ bitSignals := by
  cases g with
  | w | r | alu | bwMem | bwAlu => cases h
  | _ => simp [bitSignals]

theorem mem_bits_of_bitOf {L : Layout} {g : Signal} {p : Nat} (hp : bitOf L g = some p) : p ∈ L.bits := by
  rw [bits_eq_map]
  exact List.mem_map.2 ⟨g, mem_bitSignals hp, by rw [hp, Option.getD_some]⟩

/-- The mask of a signal with a bit of its own is that bit. -/
theorem maskOf_of_bitOf {L : Layout} {g : Signal} {p : Nat} (hp : bitOf L g = some p) : maskOf L g = bitMask p := by
  cases g <;> cases hp <;> rfl

/-- Whose mask has a bit: a signal's own bit, a field's, or the one that `BW_MEM` or `BW_ALU` is packed in. -/
theorem owner_of_getLsbD {L : Layout} {g : Signal} {x : Nat} (hx : (maskOf L g).getLsbD x = true) :
    bitOf L g = some x ∨
      (x ∈ fieldBits L.wOffset ∧ g.isDriver = true) ∨
      (x ∈ fieldBits L.rOffset ∧ ∃ r, g = .r r) ∨
      (x ∈ fieldBits L.aluOffset ∧ ∃ m, g = .alu m) ∨
      (g = .bwMem ∧ L.bwMem = .bit x) ∨ (g = .bwAlu ∧ L.bwAlu = .bit x) := by
  cases g with
  | w r => exact .inr (.inl ⟨mem_fieldBits_of_getLsbD hx, rfl⟩)
  | r r => exact .inr (.inr (.inl ⟨mem_fieldBits_of_getLsbD hx, r, rfl⟩))
  | alu m => exact .inr (.inr (.inr (.inl ⟨mem_fieldBits_of_getLsbD hx, m, rfl⟩)))
  | bwMem =>
    cases hm : L.bwMem with
    | bit p =>
      rw [maskOf, hm] at hx
      obtain rfl := eq_of_getLsbD_bitMask hx
      exact .inr (.inr (.inr (.inr (.inl ⟨rfl, rfl⟩))))
    | code c =>
      rw [maskOf, hm] at hx
      exact .inr (.inl ⟨mem_fieldBits_of_getLsbD hx, rfl⟩)
  | bwAlu =>
    cases hm : L.bwAlu with
    | bit p =>
      rw [maskOf, hm] at hx
      obtain rfl := eq_of_getLsbD_bitMask hx
      exact .inr (.inr (.inr (.inr (.inr ⟨rfl, rfl⟩))))
    | code c =>
      rw [maskOf, hm] at hx
      exact .inr (.inl ⟨mem_fieldBits_of_getLsbD hx, rfl⟩)
  | _ =>
    rw [maskOf_of_bitOf rfl] at hx
    exact .inl (congrArg some (eq_of_getLsbD_bitMask hx).symm)

theorem mem_fields_iff {L : Layout} {x : Nat} :
    x ∈ L.fields ↔ x ∈ fieldBits L.wOffset ∨ x ∈ fieldBits L.rOffset ∨ x ∈ fieldBits L.aluOffset := by
  rw [Layout.fields, List.mem_append, List.mem_append, or_assoc]

section Admissible
variable {L : Layout} (h : L.wf = true)
include h

theorem Layout.wf_spec : (∀ p ∈ L.bits ++ L.fields, p < 32) ∧ (L.bits ++ L.fields).Nodup ∧
    L.busMaskOk L.bwMem = true ∧ L.busMaskOk L.bwAlu = true := by
  simpa only [Layout.wf, Bool.and_eq_true, List.all_eq_true, decide_eq_true_eq, and_assoc] using h

/-- No two signals have the same bit. -/
theorem bitOf_injective {g g' : Signal} {p : Nat} (hp : bitOf L g = some p) (hp' : bitOf L g' = some p) : g = g' := by
  obtain ⟨-, hnodup, -⟩ := Layout.wf_spec h
  have hbits := (List.nodup_append.1 hnodup).1
  rw [bits_eq_map] at hbits
  exact List.inj_on_of_nodup_map hbits (mem_bitSignals hp) (mem_bitSignals hp') (by rw [hp, hp'])

theorem not_mem_fields_of_mem_bits {p : Nat} (hp : p ∈ L.bits) : p ∉ L.fields := by
  obtain ⟨-, hnodup, -⟩ := Layout.wf_spec h
  exact fun hf => (List.nodup_append.1 hnodup).2.2 p hp p hf rfl

/-- The three fields share no bit. -/
theorem fields_disjoint {x : Nat} :
    (x ∈ fieldBits L.wOffset → x ∉ fieldBits L.rOffset ∧ x ∉ fieldBits L.aluOffset) ∧
      (x ∈ fieldBits L.rOffset → x ∉ fieldBits L.aluOffset) := by
  obtain ⟨-, hnodup, -⟩ := Layout.wf_spec h
  obtain ⟨hwr, -, halu⟩ := List.nodup_append.1 (List.nodup_append.1 hnodup).2.1
  obtain ⟨-, -, hr⟩ := List.nodup_append.1 hwr
  exact ⟨fun hx => ⟨fun hx' => hr x hx x hx' rfl, fun hx' => halu x (List.mem_append_left _ hx) x hx' rfl⟩,
    fun hx hx' => halu x (List.mem_append_right _ hx) x hx' rfl⟩

/-- A bit that `BW_MEM` or `BW_ALU` is packed in is a bit of the word outside all others. -/
theorem busBit_spec {p : Nat} (hp : L.bwMem = .bit p ∨ L.bwAlu = .bit p) : p < 32 ∧ p ∉ L.bits ∧ p ∉ L.fields := by
  obtain ⟨-, -, hmem, halu⟩ := Layout.wf_spec h
  have hok : L.busMaskOk (.bit p) = true := hp.elim (fun hp => hp ▸ hmem) fun hp => hp ▸ halu
  simpa [Layout.busMaskOk] using hok

theorem lt_of_mem_fields {p : Nat} (hp : p ∈ L.fields) : p < 32 :=
  (Layout.wf_spec h).1 p (List.mem_append_right _ hp)

/-- A bit that a signal owns shows no other member. -/
theorem eq_of_getLsbD_bitOf {g g' : Signal} {p : Nat} (hp : bitOf L g = some p)
    (hx : (maskOf L g').getLsbD p = true) : g' = g := by
  have hbits := mem_bits_of_bitOf hp
  have hfields := not_mem_fields_of_mem_bits h hbits
  rw [mem_fields_iff, not_or, not_or] at hfields
  obtain ⟨hw, hr, halu⟩ := hfields
  rcases owner_of_getLsbD hx with ho | ⟨ho, -⟩ | ⟨ho, -⟩ | ⟨ho, -⟩ | ⟨-, ho⟩ | ⟨-, ho⟩
  · exact bitOf_injective h ho hp
  · exact absurd ho hw
  · exact absurd ho hr
  · exact absurd ho halu
  · exact absurd hbits (busBit_spec h (.inl ho)).2.1
  · exact absurd hbits (busBit_spec h (.inr ho)).2.1

/-- A bit of a field shows no signal with a bit of its own, and no packed one. -/
theorem owner_of_mem_fields {g : Signal} {x : Nat} (hf : x ∈ L.fields) (hx : (maskOf L g).getLsbD x = true) :
    (x ∈ fieldBits L.wOffset ∧ g.isDriver = true) ∨ (x ∈ fieldBits L.rOffset ∧ ∃ r, g = .r r) ∨
      (x ∈ fieldBits L.aluOffset ∧ ∃ m, g = .alu m) := by
  rcases owner_of_getLsbD hx with ho | ho | ho | ho | ⟨-, ho⟩ | ⟨-, ho⟩
  · exact absurd hf (not_mem_fields_of_mem_bits h (mem_bits_of_bitOf ho))
  · exact .inl ho
  · exact .inr (.inl ho)
  · exact .inr (.inr ho)
  · exact absurd hf (busBit_spec h (.inl ho)).2.2
  · exact absurd hf (busBit_spec h (.inr ho)).2.2

theorem isDriver_of_getLsbD {g : Signal} {x : Nat} (hf : x ∈ fieldBits L.wOffset)
    (hx : (maskOf L g).getLsbD x = true) : g.isDriver = true := by
  obtain ⟨hr, halu⟩ := (fields_disjoint h).1 hf
  rcases owner_of_mem_fields h (mem_fields_iff.2 (.inl hf)) hx with ⟨-, ho⟩ | ⟨ho, -⟩ | ⟨ho, -⟩
  · exact ho
  · exact absurd ho hr
  · exact absurd ho halu

theorem eq_r_of_getLsbD {g : Signal} {x : Nat} (hf : x ∈ fieldBits L.rOffset)
    (hx : (maskOf L g).getLsbD x = true) : ∃ r, g = .r r := by
  rcases owner_of_mem_fields h (mem_fields_iff.2 (.inr (.inl hf))) hx with ⟨ho, -⟩ | ⟨-, ho⟩ | ⟨ho, -⟩
  · exact absurd hf ((fields_disjoint h).1 ho).1
  · exact ho
  · exact absurd ho ((fields_disjoint h).2 hf)

theorem eq_alu_of_getLsbD {g : Signal} {x : Nat} (hf : x ∈ fieldBits L.aluOffset)
    (hx : (maskOf L g).getLsbD x = true) : ∃ m, g = .alu m := by
  rcases owner_of_mem_fields h (mem_fields_iff.2 (.inr (.inr hf))) hx with ⟨ho, -⟩ | ⟨ho, -⟩ | ⟨-, ho⟩
  · exact absurd hf ((fields_disjoint h).1 ho).2
  · exact absurd hf ((fields_disjoint h).2 ho)
  · exact ho

/-- A packed bit shows no signal but `BW_MEM` and `BW_ALU`. -/
theorem eq_of_getLsbD_busBit {g : Signal} {p : Nat} (hp : L.bwMem = .bit p ∨ L.bwAlu = .bit p)
    (hx : (maskOf L g).getLsbD p = true) : (g = .bwMem ∧ L.bwMem = .bit p) ∨ (g = .bwAlu ∧ L.bwAlu = .bit p) := by
  obtain ⟨-, hbits, hfields⟩ := busBit_spec h hp
  rw [mem_fields_iff, not_or, not_or] at hfields
  obtain ⟨hw, hr, halu⟩ := hfields
  rcases owner_of_getLsbD hx with ho | ⟨ho, -⟩ | ⟨ho, -⟩ | ⟨ho, -⟩ | ho
  · exact absurd (mem_bits_of_bitOf ho) hbits
  · exact absurd ho hw
  · exact absurd ho hr
  · exact absurd ho halu
  · exact ho

end Admissible

/-! ### The bits of a word (rule R87) -/

/-- A bit of the word is set exactly when some member's mask has it. -/
theorem getLsbD_encodeSet (L : Layout) (S : SigSet) (x : Nat) :
    (encodeSet L S).getLsbD x = true ↔ ∃ g ∈ S, (maskOf L g).getLsbD x = true := by
  induction S with
  | nil => simp [encodeSet]
  | cons g rest ih =>
    rw [encodeSet, List.foldr_cons, BitVec.getLsbD_or, Bool.or_eq_true, List.exists_mem_cons_iff]
    exact or_congr_right ih

/-- A bit that only one signal's mask has shows whether the signal is a member. -/
theorem getLsbD_encodeSet_eq_contains {L : Layout} {g : Signal} {x : Nat} (hg : (maskOf L g).getLsbD x = true)
    (honly : ∀ g', (maskOf L g').getLsbD x = true → g' = g) (S : SigSet) :
    (encodeSet L S).getLsbD x = S.contains g := by
  rw [Bool.eq_iff_iff, getLsbD_encodeSet, List.contains_iff_mem]
  constructor
  · rintro ⟨g', hmem, hx⟩
    exact honly g' hx ▸ hmem
  · exact fun hmem => ⟨g, hmem, hg⟩

/-- A field that only one member's mask lies in shows that mask's bits. -/
theorem extractLsb'_encodeSet {L : Layout} {S : SigSet} {g : Signal} (hg : g ∈ S) {offset : Nat} {c : BitVec 3}
    (hmask : ∀ j < 3, (maskOf L g).getLsbD (offset + j) = c.getLsbD j)
    (honly : ∀ x ∈ fieldBits offset, ∀ g' ∈ S, (maskOf L g').getLsbD x = true → g' = g) :
    (encodeSet L S).extractLsb' offset 3 = c := by
  apply BitVec.eq_of_getLsbD_eq
  intro j hj
  rw [BitVec.getLsbD_extractLsb', decide_eq_true hj, Bool.true_and, ← hmask j hj, Bool.eq_iff_iff, getLsbD_encodeSet]
  constructor
  · rintro ⟨g', hmem, hx⟩
    exact honly _ ((mem_fieldBits_iff _ _).2 ⟨j, hj, rfl⟩) g' hmem hx ▸ hx
  · exact fun hx => ⟨g, hg, hx⟩

/-! ### What the word shows -/

section Shown
variable {L : Layout} (h : L.wf = true) {S : SigSet}
include h

theorem getLsbD_fieldMask_of_mem_fields {offset : Nat} (hfield : ∀ x ∈ fieldBits offset, x ∈ L.fields) (c : BitVec 3) :
    ∀ j < 3, (fieldMask c offset).getLsbD (offset + j) = c.getLsbD j := fun j hj =>
  getLsbD_fieldMask c (lt_of_mem_fields h (hfield _ ((mem_fieldBits_iff _ _).2 ⟨j, hj, rfl⟩)))

/-- The bus-source field shows the one driver: its code, or nothing for a driver with a bit of its own. -/
theorem wField_encodeSet {g : Signal} (hg : g ∈ S) (hdriver : g.isDriver = true) (hone : SigSet.oneDriver S = true)
    {c : BitVec 3} (hmask : ∀ j < 3, (maskOf L g).getLsbD (L.wOffset + j) = c.getLsbD j) :
    (encodeSet L S).extractLsb' L.wOffset 3 = c :=
  extractLsb'_encodeSet hg hmask fun _ hx g' hg' hbit =>
    (SigSet.atMostOne_iff _ S).1 hone g' hg' g hg (isDriver_of_getLsbD h hx hbit) hdriver

theorem wField_encodeSet_code {g : Signal} {c : BitVec 3} (hg : g ∈ S) (hdriver : g.isDriver = true)
    (hone : SigSet.oneDriver S = true) (hmask : maskOf L g = fieldMask c L.wOffset) :
    (encodeSet L S).extractLsb' L.wOffset 3 = c := by
  refine wField_encodeSet h hg hdriver hone fun j hj => ?_
  rw [hmask]
  exact getLsbD_fieldMask_of_mem_fields h (fun _ hx => mem_fields_iff.2 (.inl hx)) c j hj

/-- A packed driver's bit is set where it is a member, and the bus-source field is left 0. -/
theorem busBit_encodeSet {g : Signal} {p : Nat} (hp : L.bwMem = .bit p ∨ L.bwAlu = .bit p)
    (hmask : maskOf L g = bitMask p) (hg : g ∈ S) (hdriver : g.isDriver = true) (hone : SigSet.oneDriver S = true) :
    (encodeSet L S).getLsbD p = true ∧ (encodeSet L S).extractLsb' L.wOffset 3 = 0#3 := by
  obtain ⟨hlt, -, hfields⟩ := busBit_spec h hp
  refine ⟨(getLsbD_encodeSet _ _ _).2 ⟨g, hg, by rw [hmask, getLsbD_bitMask hlt, decide_eq_true rfl]⟩,
    wField_encodeSet h hg hdriver hone fun j hj => ?_⟩
  have hne : L.wOffset + j ≠ p := by
    rintro rfl
    exact hfields (mem_fields_iff.2 (.inl ((mem_fieldBits_iff _ _).2 ⟨j, hj, rfl⟩)))
  rw [hmask, getLsbD_bitMask hlt, decide_eq_false hne, BitVec.getLsbD_zero]

/-- A packed bit of one of the two shows whether it is a member. -/
theorem busBit_eq_contains {g : Signal} {p : Nat} (hp : L.bwMem = .bit p ∨ L.bwAlu = .bit p)
    (hmask : maskOf L g = bitMask p)
    (honly : ∀ g', (g' = .bwMem ∧ L.bwMem = .bit p) ∨ (g' = .bwAlu ∧ L.bwAlu = .bit p) → g' = g) :
    (encodeSet L S).getLsbD p = S.contains g := by
  refine getLsbD_encodeSet_eq_contains ?_ (fun g' hx => honly g' (eq_of_getLsbD_busBit h hp hx)) S
  rw [hmask, getLsbD_bitMask (busBit_spec h hp).1, decide_eq_true rfl]

end Shown

/-- Settles O54: each bit and each field of the word has one owner among the members. -/
theorem controlWordBits : Obligations.ControlWordBits := by
  unfold Obligations.ControlWordBits
  intro L h
  refine ⟨fun S g p hp => ?bit, fun S m hm hone => ?alu, fun S r hr hone => ?source, fun S j hj => ?sinks,
    fun S c hone => ⟨fun hmem hc => ?memCode, fun hmem hc => ?aluCode⟩,
    fun S p => ⟨fun hp => ⟨fun hne => ?memBit, fun hmem hone => ?memField⟩,
      fun hp => ⟨fun hne => ?aluBit, fun hmem hone => ?aluField⟩⟩⟩
  case bit =>
    have hlt : p < 32 := (Layout.wf_spec h).1 p (List.mem_append_left _ (mem_bits_of_bitOf hp))
    refine getLsbD_encodeSet_eq_contains ?_ (fun g' => eq_of_getLsbD_bitOf h hp) S
    rw [maskOf_of_bitOf hp, getLsbD_bitMask hlt, decide_eq_true rfl]
  case alu =>
    refine extractLsb'_encodeSet hm
      (getLsbD_fieldMask_of_mem_fields h (fun _ hx => mem_fields_iff.2 (.inr (.inr hx))) _) fun x hx g' hg' hbit => ?_
    obtain ⟨m', rfl⟩ := eq_alu_of_getLsbD h hx hbit
    rw [(oneMode_iff S).1 hone m' m hg' hm]
  case source => exact wField_encodeSet_code h hr rfl hone rfl
  case sinks =>
    have hfield : L.rOffset + j ∈ fieldBits L.rOffset := (mem_fieldBits_iff _ _).2 ⟨j, hj, rfl⟩
    have hcode : ∀ r : Reg, (maskOf L (.r r)).getLsbD (L.rOffset + j) = r.code.getLsbD j := fun r =>
      getLsbD_fieldMask_of_mem_fields h (fun _ hx => mem_fields_iff.2 (.inr (.inl hx))) _ j hj
    rw [getLsbD_encodeSet]
    constructor
    · rintro ⟨g, hg, hbit⟩
      obtain ⟨r, rfl⟩ := eq_r_of_getLsbD h hfield hbit
      exact ⟨r, hg, hcode r ▸ hbit⟩
    · rintro ⟨r, hr, hbit⟩
      exact ⟨_, hr, (hcode r).trans hbit⟩
  case memCode => exact wField_encodeSet_code h hmem rfl hone (by rw [maskOf, hc]; rfl)
  case aluCode => exact wField_encodeSet_code h hmem rfl hone (by rw [maskOf, hc]; rfl)
  case memBit =>
    refine busBit_eq_contains h (.inl hp) (by rw [maskOf, hp]; rfl) ?_
    rintro g' (⟨rfl, -⟩ | ⟨-, halu⟩)
    · rfl
    · exact absurd halu hne
  case memField => exact busBit_encodeSet h (.inl hp) (by rw [maskOf, hp]; rfl) hmem rfl hone
  case aluBit =>
    refine busBit_eq_contains h (.inr hp) (by rw [maskOf, hp]; rfl) ?_
    rintro g' (⟨-, hmem⟩ | ⟨rfl, -⟩)
    · exact absurd hmem hne
    · rfl
  case aluField => exact busBit_encodeSet h (.inr hp) (by rw [maskOf, hp]; rfl) hmem rfl hone

end Sys2Proof.Machine
end
